-- ==== Sys2Proof/Word.lean ====
section
/-! DEFINITION. The words PLCPHY moves: bytes, samples, 32-bit port words (30_encoding.md R90, 00_scope.md R9). -/

namespace Sys2Proof

/-- A byte: an element of the playback memory, of a decoded stream, of a string setting (20_memory.md R60). -/
abbrev Byte := BitVec 8

/-- One sample container of `SAMPLE_W` = 16 bits (00_scope.md R9). -/
abbrev Sample := BitVec 16

/-- One word of the command port or of the event port (30_encoding.md R90, R102). -/
abbrev Word := BitVec 32

/-- The 32-bit pattern by which HOST writes a REAL and reads one (00_scope.md R14: `ofBits`, `toBits`). -/
abbrev Real32 := BitVec 32

/-- A REAL (00_scope.md R14): an element of whatever number format the parameter `Num` works in, held as the number that
names it there. Which number names which value is the format's own affair: binary32 names a value by its pattern, a
format of more bits or of exact rationals by a numbering of its values (log entry 12). -/
abbrev REAL := Nat

end Sys2Proof
end

