-- ==== Sys2Proof/Syntax.lean ====
section
/-! DEFINITION. The syntax of PLCPHY's instruction set: the units of 30_encoding.md R92, the operands of R95, and
`Instr`, one constructor for every row of spec/opcode_table.json (a command on one of its legal units, or one word of
the event port). An operation on a unit with no argument ignores its 16-bit `arg` field (R100), so such a constructor
holds no operand. -/

namespace Sys2Proof

/-- The four decoder units, numbers 1 to 4 (30_encoding.md R92). -/
inductive DecUnit where
  | ook | pwm | morse | raw
deriving DecidableEq, Repr

/-- The five encoder units, numbers 8 to 12 (30_encoding.md R92). -/
inductive EncUnit where
  | wave | wav | ook | pwm | morse
deriving DecidableEq, Repr

/-- A plugin unit: a decoder or an encoder, with the common lifecycle of 41_lifecycle_settings.md R140. -/
inductive PluginUnit where
  | dec (d : DecUnit)
  | enc (e : EncUnit)
deriving DecidableEq, Repr

/-- The operand of `SET_SETTING` as HOST sends it: the tag word, then the words of the value in the form that
30_encoding.md R98 gives for that tag (R95). Whether the words are a legal value is for the command to say
(41_lifecycle_settings.md R145), not for the decoder. -/
structure SettingArg where
  tag : Word
  value : List Word
deriving DecidableEq, Repr

/-- The instructions: spec/opcode_table.json row by row, in its order (30_encoding.md R93, R95, R102). -/
inductive Instr where
  -- CREATE (R143)
  | createDecOok
  | createDecPwm
  | createDecMorse
  | createDecRaw
  | createEncWave
  | createEncWav
  | createEncOok
  | createEncPwm
  | createEncMorse
  -- GET_ACCEPTED_SETTINGS (R144)
  | getAcceptedSettingsDecOok
  | getAcceptedSettingsDecPwm
  | getAcceptedSettingsDecMorse
  | getAcceptedSettingsDecRaw
  | getAcceptedSettingsEncWave
  | getAcceptedSettingsEncWav
  | getAcceptedSettingsEncOok
  | getAcceptedSettingsEncPwm
  | getAcceptedSettingsEncMorse
  -- BEGIN_SETTINGS (R146)
  | beginSettingsDecOok
  | beginSettingsDecPwm
  | beginSettingsDecMorse
  | beginSettingsDecRaw
  | beginSettingsEncWave
  | beginSettingsEncWav
  | beginSettingsEncOok
  | beginSettingsEncPwm
  | beginSettingsEncMorse
  -- SET_SETTING (R145)
  | setSettingDecOok (id : BitVec 16) (value : SettingArg)
  | setSettingDecPwm (id : BitVec 16) (value : SettingArg)
  | setSettingDecMorse (id : BitVec 16) (value : SettingArg)
  | setSettingDecRaw (id : BitVec 16) (value : SettingArg)
  | setSettingEncWave (id : BitVec 16) (value : SettingArg)
  | setSettingEncWav (id : BitVec 16) (value : SettingArg)
  | setSettingEncOok (id : BitVec 16) (value : SettingArg)
  | setSettingEncPwm (id : BitVec 16) (value : SettingArg)
  | setSettingEncMorse (id : BitVec 16) (value : SettingArg)
  -- END_SETTINGS (R173)
  | endSettingsDecOok
  | endSettingsDecPwm
  | endSettingsDecMorse
  | endSettingsDecRaw
  | endSettingsEncWave
  | endSettingsEncWav
  | endSettingsEncOok
  | endSettingsEncPwm
  | endSettingsEncMorse
  -- RELEASE (R148)
  | releaseDecOok
  | releaseDecPwm
  | releaseDecMorse
  | releaseDecRaw
  | releaseEncWave
  | releaseEncWav
  | releaseEncOok
  | releaseEncPwm
  | releaseEncMorse
  -- GET_STATUS (R149)
  | getStatusDecOok
  | getStatusDecPwm
  | getStatusDecMorse
  | getStatusDecRaw
  | getStatusEncWave
  | getStatusEncWav
  | getStatusEncOok
  | getStatusEncPwm
  | getStatusEncMorse
  -- INITIALIZE (R174)
  | initializeDecOok (n : BitVec 16)
  | initializeDecPwm (n : BitVec 16)
  | initializeDecMorse (n : BitVec 16)
  | initializeDecRaw (n : BitVec 16)
  -- PARSE_NEXT_SAMPLES (R182)
  | parseNextSamplesDecOok (raw : List Sample)
  | parseNextSamplesDecPwm (raw : List Sample)
  | parseNextSamplesDecMorse (raw : List Sample)
  | parseNextSamplesDecRaw (raw : List Sample)
  -- TERMINATE (R176)
  | terminateDecOok
  | terminateDecPwm
  | terminateDecMorse
  | terminateDecRaw
  -- READ_DECODED (R205)
  | readDecodedDecOok (m : BitVec 16)
  | readDecodedDecPwm (m : BitVec 16)
  | readDecodedDecMorse (m : BitVec 16)
  | readDecodedDecRaw (m : BitVec 16)
  -- READ_CAPTURE (R206)
  | readCaptureDecOok (m : BitVec 16)
  | readCaptureDecPwm (m : BitVec 16)
  | readCaptureDecMorse (m : BitVec 16)
  -- RESET (R213)
  | resetEncWave
  | resetEncWav
  | resetEncOok
  | resetEncPwm
  | resetEncMorse
  -- PREPARE_NEXT_SAMPLES (R214)
  | prepareNextSamplesEncWave (k : BitVec 16)
  | prepareNextSamplesEncWav (k : BitVec 16)
  | prepareNextSamplesEncOok (k : BitVec 16)
  | prepareNextSamplesEncPwm (k : BitVec 16)
  | prepareNextSamplesEncMorse (k : BitVec 16)
  -- PB_LOAD (R240)
  | pbLoad (format : BitVec 16) (channels : BitVec 16) (bits : BitVec 16) (data : List Byte)
  -- FLT_CREATE (R121)
  | fltCreate (n : BitVec 16) (a : List Real32) (b : List Real32)
  -- FLT_SET_DEMOD (R122)
  | fltSetDemod (mode : BitVec 16) (fw : Word)
  -- FLT_SET_CAPTURE (R123)
  | fltSetCapture (count : Word)
  -- FLT_PROCESS_CHUNK (R124)
  | fltProcessChunk (offset : Sample) (raw : List Sample)
  -- FLT_READ_OUTPUT (R130)
  | fltReadOutput
  -- FLT_READ_CAPTURE (R131)
  | fltReadCapture (m : BitVec 16)
  -- FLT_RELEASE (R132)
  | fltRelease
  -- TX_BIND (R262)
  | txBind (unit : BitVec 16)
  -- TX_START (R267)
  | txStart (n : BitVec 16)
  -- TX_STOP (R275)
  | txStop
  -- TX_STATUS (R277)
  | txStatus
  -- RX_BIND (R263)
  | rxBind (unit : BitVec 16)
  -- RX_START (R281)
  | rxStart (n : BitVec 16)
  -- RX_STOP (R289)
  | rxStop
  -- RX_STATUS (R291)
  | rxStatus
  -- SYS_STATUS (R308)
  | sysStatus
  -- EV_TX_SENT, a word of the event port (R102)
  | evTxSent (buf : Byte) (count : BitVec 16)
  -- EV_RX_CAPTURED, a word of the event port (R102)
  | evRxCaptured (buf : Byte) (count : BitVec 16)
  -- REQ_TX_SEND, a word of the event port (R102)
  | reqTxSend (buf : Byte) (count : BitVec 16)
  -- REQ_RX_CAPTURE, a word of the event port (R102)
  | reqRxCapture (buf : Byte) (count : BitVec 16)
  -- REQ_RX_ABORT, a word of the event port (R102)
  | reqRxAbort (buf : Byte) (count : BitVec 16)
deriving DecidableEq, Repr

end Sys2Proof
end

