-- ==== Sys2Proof/WellFormed.lean ====
section
/-! DEFINITION. Which terms of `Instr` are instructions: those whose operands fit the encoding of 30_encoding.md R95,
R98 and R101. The decoder produces only these, and the encoder is meant for these. -/

namespace Sys2Proof

/-- The number of value words that follow the tag word of a `SET_SETTING` (30_encoding.md R98, R101): two for i64, u64,
double and callback; for string the length word and its ceil(L/4) words of bytes; none for a word that is no tag; one
for every other tag. `first` is the first value word, read only for a string. -/
def settingValueLen (tag first : Word) : Nat :=
  if tag.toNat = 7 ∨ tag.toNat = 8 ∨ tag.toNat = 10 ∨ tag.toNat = 13 then 2
  else if tag.toNat = 11 then 1 + (first.toNat + 3) / 4
  else if tag.toNat ≤ 13 then 1
  else 0

/-- A setting operand has exactly the words its tag asks for (30_encoding.md R98, R101). -/
def SettingArg.wf (v : SettingArg) : Bool :=
  v.value.length == settingValueLen v.tag (v.value.headD 0)

/-- The sample count of `PARSE_NEXT_SAMPLES` stands in the 16-bit `arg` field (30_encoding.md R95). -/
def samplesFitArg (raw : List Sample) : Bool := decide (raw.length < 2 ^ 16)

/-- A count sent as one payload word is below 2^32 (30_encoding.md R94). -/
def fitsWord (n : Nat) : Bool := decide (n < 2 ^ 32)

/-- An instruction whose operands fit its encoding. -/
def Instr.wf (i : Instr) : Bool :=
  match i with
  | .createDecOok => true
  | .createDecPwm => true
  | .createDecMorse => true
  | .createDecRaw => true
  | .createEncWave => true
  | .createEncWav => true
  | .createEncOok => true
  | .createEncPwm => true
  | .createEncMorse => true
  | .getAcceptedSettingsDecOok => true
  | .getAcceptedSettingsDecPwm => true
  | .getAcceptedSettingsDecMorse => true
  | .getAcceptedSettingsDecRaw => true
  | .getAcceptedSettingsEncWave => true
  | .getAcceptedSettingsEncWav => true
  | .getAcceptedSettingsEncOok => true
  | .getAcceptedSettingsEncPwm => true
  | .getAcceptedSettingsEncMorse => true
  | .beginSettingsDecOok => true
  | .beginSettingsDecPwm => true
  | .beginSettingsDecMorse => true
  | .beginSettingsDecRaw => true
  | .beginSettingsEncWave => true
  | .beginSettingsEncWav => true
  | .beginSettingsEncOok => true
  | .beginSettingsEncPwm => true
  | .beginSettingsEncMorse => true
  | .setSettingDecOok _ value => value.wf
  | .setSettingDecPwm _ value => value.wf
  | .setSettingDecMorse _ value => value.wf
  | .setSettingDecRaw _ value => value.wf
  | .setSettingEncWave _ value => value.wf
  | .setSettingEncWav _ value => value.wf
  | .setSettingEncOok _ value => value.wf
  | .setSettingEncPwm _ value => value.wf
  | .setSettingEncMorse _ value => value.wf
  | .endSettingsDecOok => true
  | .endSettingsDecPwm => true
  | .endSettingsDecMorse => true
  | .endSettingsDecRaw => true
  | .endSettingsEncWave => true
  | .endSettingsEncWav => true
  | .endSettingsEncOok => true
  | .endSettingsEncPwm => true
  | .endSettingsEncMorse => true
  | .releaseDecOok => true
  | .releaseDecPwm => true
  | .releaseDecMorse => true
  | .releaseDecRaw => true
  | .releaseEncWave => true
  | .releaseEncWav => true
  | .releaseEncOok => true
  | .releaseEncPwm => true
  | .releaseEncMorse => true
  | .getStatusDecOok => true
  | .getStatusDecPwm => true
  | .getStatusDecMorse => true
  | .getStatusDecRaw => true
  | .getStatusEncWave => true
  | .getStatusEncWav => true
  | .getStatusEncOok => true
  | .getStatusEncPwm => true
  | .getStatusEncMorse => true
  | .initializeDecOok _ => true
  | .initializeDecPwm _ => true
  | .initializeDecMorse _ => true
  | .initializeDecRaw _ => true
  | .parseNextSamplesDecOok raw => samplesFitArg raw
  | .parseNextSamplesDecPwm raw => samplesFitArg raw
  | .parseNextSamplesDecMorse raw => samplesFitArg raw
  | .parseNextSamplesDecRaw raw => samplesFitArg raw
  | .terminateDecOok => true
  | .terminateDecPwm => true
  | .terminateDecMorse => true
  | .terminateDecRaw => true
  | .readDecodedDecOok _ => true
  | .readDecodedDecPwm _ => true
  | .readDecodedDecMorse _ => true
  | .readDecodedDecRaw _ => true
  | .readCaptureDecOok _ => true
  | .readCaptureDecPwm _ => true
  | .readCaptureDecMorse _ => true
  | .resetEncWave => true
  | .resetEncWav => true
  | .resetEncOok => true
  | .resetEncPwm => true
  | .resetEncMorse => true
  | .prepareNextSamplesEncWave _ => true
  | .prepareNextSamplesEncWav _ => true
  | .prepareNextSamplesEncOok _ => true
  | .prepareNextSamplesEncPwm _ => true
  | .prepareNextSamplesEncMorse _ => true
  | .pbLoad _ _ _ data => fitsWord data.length
  | .fltCreate _ a b => fitsWord a.length && fitsWord b.length
  | .fltSetDemod _ _ => true
  | .fltSetCapture _ => true
  | .fltProcessChunk _ raw => fitsWord raw.length
  | .fltReadOutput => true
  | .fltReadCapture _ => true
  | .fltRelease => true
  | .txBind _ => true
  | .txStart _ => true
  | .txStop => true
  | .txStatus => true
  | .rxBind _ => true
  | .rxStart _ => true
  | .rxStop => true
  | .rxStatus => true
  | .sysStatus => true
  | .evTxSent _ _ => true
  | .evRxCaptured _ _ => true
  | .reqTxSend _ _ => true
  | .reqRxCapture _ _ => true
  | .reqRxAbort _ _ => true

end Sys2Proof
end

