-- ==== Sys2Proof/Decode.lean ====
section
/-! DEFINITION. The decoder of the command port (30_encoding.md R91, R95, R100, R101) and of the event port (R102), the
packing of operands into words (R94), and the encoder written from the same tables. -/

namespace Sys2Proof

/-! Words and their parts (30_encoding.md R91, R94, R102). -/

/-- The field `opcode` of a command word, or `code` of an event word: bits 31..24. -/
def Word.code (w : Word) : BitVec 8 := w.extractLsb' 24 8

/-- The field `unit` of a command word, or `buf` of an event word: bits 23..16. -/
def Word.unit (w : Word) : BitVec 8 := w.extractLsb' 16 8

/-- The field `arg` of a command word, or `count` of an event word: bits 15..0. -/
def Word.arg (w : Word) : BitVec 16 := w.extractLsb' 0 16

/-- Bits 31..16 of a payload word. -/
def Word.high (w : Word) : BitVec 16 := w.extractLsb' 16 16

/-- A word from its three fields: a command word (R91) or an event word (R102). -/
def fieldsWord (code unit : BitVec 8) (arg : BitVec 16) : Word := code ++ unit ++ arg

/-- The two samples of a payload word, the low half first (R94). -/
def wordSamples (w : Word) : List Sample := [w.extractLsb' 0 16, w.extractLsb' 16 16]

/-- The four bytes of a payload word, the low byte first (R94). -/
def wordBytes (w : Word) : List Byte :=
  [w.extractLsb' 0 8, w.extractLsb' 8 8, w.extractLsb' 16 8, w.extractLsb' 24 8]

/-- `k` samples from payload words (R94). -/
def unpackSamples (k : Nat) (ws : List Word) : List Sample := (ws.flatMap wordSamples).take k

/-- `k` bytes from payload words (R94). -/
def unpackBytes (k : Nat) (ws : List Word) : List Byte := (ws.flatMap wordBytes).take k

/-- Samples into words, two a word, the low half first, a missing upper half 0 (R94). -/
def packSamples : List Sample → List Word
  | [] => []
  | [a] => [(0 : Sample) ++ a]
  | a :: b :: t => (b ++ a) :: packSamples t

/-- Bytes into words, four a word, the low byte first, absent bytes 0 (R94). -/
def packBytes : List Byte → List Word
  | [] => []
  | [a] => [(0 : Byte) ++ (0 : Byte) ++ (0 : Byte) ++ a]
  | [a, b] => [(0 : Byte) ++ (0 : Byte) ++ b ++ a]
  | [a, b, c] => [(0 : Byte) ++ c ++ b ++ a]
  | a :: b :: c :: d :: t => (d ++ c ++ b ++ a) :: packBytes t

/-- The number of words that hold `k` samples (R94). -/
def sampleWords (k : Nat) : Nat := (k + 1) / 2

/-- The number of words that hold `k` bytes (R94). -/
def byteWords (k : Nat) : Nat := (k + 3) / 4

/-! The shapes of a transaction (30_encoding.md R95). -/

/-- What follows a command word and how it makes an instruction (R95, R101). -/
inductive Shape where
  /-- No argument and no payload; `arg` is ignored (R100). -/
  | plain (i : Instr)
  /-- The argument is the operand; no payload. -/
  | argOnly (f : BitVec 16 → Instr)
  /-- `SET_SETTING`: the identifier in `arg`, a tag word, the value words of R98. -/
  | setting (f : BitVec 16 → SettingArg → Instr)
  /-- `PARSE_NEXT_SAMPLES`: the count in `arg`, then the samples. -/
  | samples (f : List Sample → Instr)
  /-- `PB_LOAD`: the descriptor in three words, then the bytes. -/
  | playback (f : BitVec 16 → BitVec 16 → BitVec 16 → List Byte → Instr)
  /-- `FLT_CREATE`: the chunk size in `arg`, two counts, the coefficients. -/
  | coeffs (f : BitVec 16 → List Real32 → List Real32 → Instr)
  /-- `FLT_SET_DEMOD`: the mode in `arg` and one word. -/
  | argWord (f : BitVec 16 → Word → Instr)
  /-- `FLT_SET_CAPTURE`: one word. -/
  | word (f : Word → Instr)
  /-- `FLT_PROCESS_CHUNK`: the offset in `arg`, a count word, the samples. -/
  | chunk (f : Sample → List Sample → Instr)

/-- The number of payload words (R101), from the words that follow the command word; a word not there yet counts as 0,
which never makes the number smaller than the words already needed. -/
def Shape.payloadLen (arg : BitVec 16) (ws : List Word) : Shape → Nat
  | .plain _ => 0
  | .argOnly _ => 0
  | .setting _ => 1 + settingValueLen (ws.getD 0 0) (ws.getD 1 0)
  | .samples _ => sampleWords arg.toNat
  | .playback _ => 3 + byteWords (ws.getD 2 0).toNat
  | .coeffs _ => 2 + (ws.getD 0 0).toNat + (ws.getD 1 0).toNat
  | .argWord _ => 1
  | .word _ => 1
  | .chunk _ => 1 + sampleWords (ws.getD 0 0).toNat

/-- The instruction from its argument and its payload words (R94, R95). DESIGN CHOICE, log entry 22: bits no operand has are
not read, on which the spec names no check and no effect: the upper half of payload word 1 of `PB_LOAD` (R95, 43_encoders.md
R240), a missing second sample, absent bytes. -/
def Shape.read (arg : BitVec 16) (ws : List Word) : Shape → Instr
  | .plain i => i
  | .argOnly f => f arg
  | .setting f => f arg ⟨ws.getD 0 0, ws.drop 1⟩
  | .samples f => f (unpackSamples arg.toNat ws)
  | .playback f =>
      f (ws.getD 0 0).arg (ws.getD 0 0).high (ws.getD 1 0).arg (unpackBytes (ws.getD 2 0).toNat (ws.drop 3))
  | .coeffs f => f arg ((ws.drop 2).take (ws.getD 0 0).toNat) ((ws.drop 2).drop (ws.getD 0 0).toNat)
  | .argWord f => f arg (ws.getD 0 0)
  | .word f => f (ws.getD 0 0)
  | .chunk f => f arg (unpackSamples (ws.getD 0 0).toNat (ws.drop 1))

/-! The opcode table (spec/opcode_table.json; 30_encoding.md R93). -/

/-- A row of the table: bits 31..24 and 23..16 of the command word, and the shape of the transaction. -/
structure OpRow where
  opcode : Nat
  unit : Nat
  shape : Shape

/-- Opcodes 0x01 to 0x03 (R93). -/
def lifecycleRowsA : List OpRow :=
  [ ⟨0x01, 1, .plain .createDecOok⟩,
    ⟨0x01, 2, .plain .createDecPwm⟩,
    ⟨0x01, 3, .plain .createDecMorse⟩,
    ⟨0x01, 4, .plain .createDecRaw⟩,
    ⟨0x01, 8, .plain .createEncWave⟩,
    ⟨0x01, 9, .plain .createEncWav⟩,
    ⟨0x01, 10, .plain .createEncOok⟩,
    ⟨0x01, 11, .plain .createEncPwm⟩,
    ⟨0x01, 12, .plain .createEncMorse⟩,
    ⟨0x02, 1, .plain .getAcceptedSettingsDecOok⟩,
    ⟨0x02, 2, .plain .getAcceptedSettingsDecPwm⟩,
    ⟨0x02, 3, .plain .getAcceptedSettingsDecMorse⟩,
    ⟨0x02, 4, .plain .getAcceptedSettingsDecRaw⟩,
    ⟨0x02, 8, .plain .getAcceptedSettingsEncWave⟩,
    ⟨0x02, 9, .plain .getAcceptedSettingsEncWav⟩,
    ⟨0x02, 10, .plain .getAcceptedSettingsEncOok⟩,
    ⟨0x02, 11, .plain .getAcceptedSettingsEncPwm⟩,
    ⟨0x02, 12, .plain .getAcceptedSettingsEncMorse⟩,
    ⟨0x03, 1, .plain .beginSettingsDecOok⟩,
    ⟨0x03, 2, .plain .beginSettingsDecPwm⟩,
    ⟨0x03, 3, .plain .beginSettingsDecMorse⟩,
    ⟨0x03, 4, .plain .beginSettingsDecRaw⟩,
    ⟨0x03, 8, .plain .beginSettingsEncWave⟩,
    ⟨0x03, 9, .plain .beginSettingsEncWav⟩,
    ⟨0x03, 10, .plain .beginSettingsEncOok⟩,
    ⟨0x03, 11, .plain .beginSettingsEncPwm⟩,
    ⟨0x03, 12, .plain .beginSettingsEncMorse⟩ ]

/-- Opcodes 0x04 to 0x07 (R93). -/
def lifecycleRowsB : List OpRow :=
  [ ⟨0x04, 1, .setting .setSettingDecOok⟩,
    ⟨0x04, 2, .setting .setSettingDecPwm⟩,
    ⟨0x04, 3, .setting .setSettingDecMorse⟩,
    ⟨0x04, 4, .setting .setSettingDecRaw⟩,
    ⟨0x04, 8, .setting .setSettingEncWave⟩,
    ⟨0x04, 9, .setting .setSettingEncWav⟩,
    ⟨0x04, 10, .setting .setSettingEncOok⟩,
    ⟨0x04, 11, .setting .setSettingEncPwm⟩,
    ⟨0x04, 12, .setting .setSettingEncMorse⟩,
    ⟨0x05, 1, .plain .endSettingsDecOok⟩,
    ⟨0x05, 2, .plain .endSettingsDecPwm⟩,
    ⟨0x05, 3, .plain .endSettingsDecMorse⟩,
    ⟨0x05, 4, .plain .endSettingsDecRaw⟩,
    ⟨0x05, 8, .plain .endSettingsEncWave⟩,
    ⟨0x05, 9, .plain .endSettingsEncWav⟩,
    ⟨0x05, 10, .plain .endSettingsEncOok⟩,
    ⟨0x05, 11, .plain .endSettingsEncPwm⟩,
    ⟨0x05, 12, .plain .endSettingsEncMorse⟩,
    ⟨0x06, 1, .plain .releaseDecOok⟩,
    ⟨0x06, 2, .plain .releaseDecPwm⟩,
    ⟨0x06, 3, .plain .releaseDecMorse⟩,
    ⟨0x06, 4, .plain .releaseDecRaw⟩,
    ⟨0x06, 8, .plain .releaseEncWave⟩,
    ⟨0x06, 9, .plain .releaseEncWav⟩,
    ⟨0x06, 10, .plain .releaseEncOok⟩,
    ⟨0x06, 11, .plain .releaseEncPwm⟩,
    ⟨0x06, 12, .plain .releaseEncMorse⟩,
    ⟨0x07, 1, .plain .getStatusDecOok⟩,
    ⟨0x07, 2, .plain .getStatusDecPwm⟩,
    ⟨0x07, 3, .plain .getStatusDecMorse⟩,
    ⟨0x07, 4, .plain .getStatusDecRaw⟩,
    ⟨0x07, 8, .plain .getStatusEncWave⟩,
    ⟨0x07, 9, .plain .getStatusEncWav⟩,
    ⟨0x07, 10, .plain .getStatusEncOok⟩,
    ⟨0x07, 11, .plain .getStatusEncPwm⟩,
    ⟨0x07, 12, .plain .getStatusEncMorse⟩ ]

/-- Opcodes 0x10 to 0x14 (R93). -/
def decoderRows : List OpRow :=
  [ ⟨0x10, 1, .argOnly .initializeDecOok⟩,
    ⟨0x10, 2, .argOnly .initializeDecPwm⟩,
    ⟨0x10, 3, .argOnly .initializeDecMorse⟩,
    ⟨0x10, 4, .argOnly .initializeDecRaw⟩,
    ⟨0x11, 1, .samples .parseNextSamplesDecOok⟩,
    ⟨0x11, 2, .samples .parseNextSamplesDecPwm⟩,
    ⟨0x11, 3, .samples .parseNextSamplesDecMorse⟩,
    ⟨0x11, 4, .samples .parseNextSamplesDecRaw⟩,
    ⟨0x12, 1, .plain .terminateDecOok⟩,
    ⟨0x12, 2, .plain .terminateDecPwm⟩,
    ⟨0x12, 3, .plain .terminateDecMorse⟩,
    ⟨0x12, 4, .plain .terminateDecRaw⟩,
    ⟨0x13, 1, .argOnly .readDecodedDecOok⟩,
    ⟨0x13, 2, .argOnly .readDecodedDecPwm⟩,
    ⟨0x13, 3, .argOnly .readDecodedDecMorse⟩,
    ⟨0x13, 4, .argOnly .readDecodedDecRaw⟩,
    ⟨0x14, 1, .argOnly .readCaptureDecOok⟩,
    ⟨0x14, 2, .argOnly .readCaptureDecPwm⟩,
    ⟨0x14, 3, .argOnly .readCaptureDecMorse⟩ ]

/-- Opcodes 0x18 to 0x1A (R93). -/
def encoderRows : List OpRow :=
  [ ⟨0x18, 8, .plain .resetEncWave⟩,
    ⟨0x18, 9, .plain .resetEncWav⟩,
    ⟨0x18, 10, .plain .resetEncOok⟩,
    ⟨0x18, 11, .plain .resetEncPwm⟩,
    ⟨0x18, 12, .plain .resetEncMorse⟩,
    ⟨0x19, 8, .argOnly .prepareNextSamplesEncWave⟩,
    ⟨0x19, 9, .argOnly .prepareNextSamplesEncWav⟩,
    ⟨0x19, 10, .argOnly .prepareNextSamplesEncOok⟩,
    ⟨0x19, 11, .argOnly .prepareNextSamplesEncPwm⟩,
    ⟨0x19, 12, .argOnly .prepareNextSamplesEncMorse⟩,
    ⟨0x1A, 9, .playback .pbLoad⟩ ]

/-- Opcodes 0x20 to 0x3F (R93). -/
def systemRows : List OpRow :=
  [ ⟨0x20, 0, .coeffs .fltCreate⟩,
    ⟨0x21, 0, .argWord .fltSetDemod⟩,
    ⟨0x22, 0, .word .fltSetCapture⟩,
    ⟨0x23, 0, .chunk .fltProcessChunk⟩,
    ⟨0x24, 0, .plain .fltReadOutput⟩,
    ⟨0x25, 0, .argOnly .fltReadCapture⟩,
    ⟨0x26, 0, .plain .fltRelease⟩,
    ⟨0x30, 16, .argOnly .txBind⟩,
    ⟨0x31, 16, .argOnly .txStart⟩,
    ⟨0x32, 16, .plain .txStop⟩,
    ⟨0x33, 16, .plain .txStatus⟩,
    ⟨0x38, 17, .argOnly .rxBind⟩,
    ⟨0x39, 17, .argOnly .rxStart⟩,
    ⟨0x3A, 17, .plain .rxStop⟩,
    ⟨0x3B, 17, .plain .rxStatus⟩,
    ⟨0x3F, 255, .plain .sysStatus⟩ ]

/-- The command table: every legal pair of opcode and unit (R93). -/
def opTable : List OpRow :=
  lifecycleRowsA ++ lifecycleRowsB ++ decoderRows ++ encoderRows ++ systemRows

/-- The shape of a command word, if its opcode is defined for its unit (R93, R100). -/
def commandShape? (w : Word) : Option Shape :=
  (opTable.find? (fun r => r.opcode == w.code.toNat && r.unit == w.unit.toNat)).map (·.shape)

/-! Decoding. -/

/-- What the decoder answers on the words waiting on the command port. -/
inductive Fetched where
  /-- A complete transaction, and the words after it. -/
  | instr (i : Instr) (rest : List Word)
  /-- An illegal command word: reserved opcode, reserved unit, or an opcode not defined for its unit; it has no payload
  (30_encoding.md R100). -/
  | illegal (rest : List Word)
  /-- No word, or a transaction not yet complete (30_encoding.md R90). -/
  | incomplete
deriving DecidableEq, Repr

/-- Decode one transaction (30_encoding.md R100, R101): total on every list of words. -/
def decode : List Word → Fetched
  | [] => .incomplete
  | w :: ws =>
    match commandShape? w with
    | none => .illegal ws
    | some sh =>
      if sh.payloadLen w.arg ws ≤ ws.length then
        .instr (sh.read w.arg (ws.take (sh.payloadLen w.arg ws))) (ws.drop (sh.payloadLen w.arg ws))
      else .incomplete

/-- Decode one word of the event port (30_encoding.md R102); `none` for any other code. -/
def decodeEvent (w : Word) : Option Instr :=
  if w.code = 0x80 then some (.evTxSent w.unit w.arg)
  else if w.code = 0x81 then some (.evRxCaptured w.unit w.arg)
  else if w.code = 0x90 then some (.reqTxSend w.unit w.arg)
  else if w.code = 0x91 then some (.reqRxCapture w.unit w.arg)
  else if w.code = 0x92 then some (.reqRxAbort w.unit w.arg)
  else none

/-! Encoding. -/

/-- A command word (30_encoding.md R91). -/
def commandWord (opcode unit : BitVec 8) (arg : BitVec 16) : Word := fieldsWord opcode unit arg

/-- A count as a payload word (30_encoding.md R94). -/
def countWord (n : Nat) : Word := BitVec.ofNat 32 n

/-- The words of an instruction (30_encoding.md R91, R94, R95, R102), for a well-formed one. An ignored `arg` is sent as
0. -/
def encode (i : Instr) : List Word :=
  match i with
  | .createDecOok => [commandWord 0x01 1 0]
  | .createDecPwm => [commandWord 0x01 2 0]
  | .createDecMorse => [commandWord 0x01 3 0]
  | .createDecRaw => [commandWord 0x01 4 0]
  | .createEncWave => [commandWord 0x01 8 0]
  | .createEncWav => [commandWord 0x01 9 0]
  | .createEncOok => [commandWord 0x01 10 0]
  | .createEncPwm => [commandWord 0x01 11 0]
  | .createEncMorse => [commandWord 0x01 12 0]
  | .getAcceptedSettingsDecOok => [commandWord 0x02 1 0]
  | .getAcceptedSettingsDecPwm => [commandWord 0x02 2 0]
  | .getAcceptedSettingsDecMorse => [commandWord 0x02 3 0]
  | .getAcceptedSettingsDecRaw => [commandWord 0x02 4 0]
  | .getAcceptedSettingsEncWave => [commandWord 0x02 8 0]
  | .getAcceptedSettingsEncWav => [commandWord 0x02 9 0]
  | .getAcceptedSettingsEncOok => [commandWord 0x02 10 0]
  | .getAcceptedSettingsEncPwm => [commandWord 0x02 11 0]
  | .getAcceptedSettingsEncMorse => [commandWord 0x02 12 0]
  | .beginSettingsDecOok => [commandWord 0x03 1 0]
  | .beginSettingsDecPwm => [commandWord 0x03 2 0]
  | .beginSettingsDecMorse => [commandWord 0x03 3 0]
  | .beginSettingsDecRaw => [commandWord 0x03 4 0]
  | .beginSettingsEncWave => [commandWord 0x03 8 0]
  | .beginSettingsEncWav => [commandWord 0x03 9 0]
  | .beginSettingsEncOok => [commandWord 0x03 10 0]
  | .beginSettingsEncPwm => [commandWord 0x03 11 0]
  | .beginSettingsEncMorse => [commandWord 0x03 12 0]
  | .setSettingDecOok id value => commandWord 0x04 1 id :: value.tag :: value.value
  | .setSettingDecPwm id value => commandWord 0x04 2 id :: value.tag :: value.value
  | .setSettingDecMorse id value => commandWord 0x04 3 id :: value.tag :: value.value
  | .setSettingDecRaw id value => commandWord 0x04 4 id :: value.tag :: value.value
  | .setSettingEncWave id value => commandWord 0x04 8 id :: value.tag :: value.value
  | .setSettingEncWav id value => commandWord 0x04 9 id :: value.tag :: value.value
  | .setSettingEncOok id value => commandWord 0x04 10 id :: value.tag :: value.value
  | .setSettingEncPwm id value => commandWord 0x04 11 id :: value.tag :: value.value
  | .setSettingEncMorse id value => commandWord 0x04 12 id :: value.tag :: value.value
  | .endSettingsDecOok => [commandWord 0x05 1 0]
  | .endSettingsDecPwm => [commandWord 0x05 2 0]
  | .endSettingsDecMorse => [commandWord 0x05 3 0]
  | .endSettingsDecRaw => [commandWord 0x05 4 0]
  | .endSettingsEncWave => [commandWord 0x05 8 0]
  | .endSettingsEncWav => [commandWord 0x05 9 0]
  | .endSettingsEncOok => [commandWord 0x05 10 0]
  | .endSettingsEncPwm => [commandWord 0x05 11 0]
  | .endSettingsEncMorse => [commandWord 0x05 12 0]
  | .releaseDecOok => [commandWord 0x06 1 0]
  | .releaseDecPwm => [commandWord 0x06 2 0]
  | .releaseDecMorse => [commandWord 0x06 3 0]
  | .releaseDecRaw => [commandWord 0x06 4 0]
  | .releaseEncWave => [commandWord 0x06 8 0]
  | .releaseEncWav => [commandWord 0x06 9 0]
  | .releaseEncOok => [commandWord 0x06 10 0]
  | .releaseEncPwm => [commandWord 0x06 11 0]
  | .releaseEncMorse => [commandWord 0x06 12 0]
  | .getStatusDecOok => [commandWord 0x07 1 0]
  | .getStatusDecPwm => [commandWord 0x07 2 0]
  | .getStatusDecMorse => [commandWord 0x07 3 0]
  | .getStatusDecRaw => [commandWord 0x07 4 0]
  | .getStatusEncWave => [commandWord 0x07 8 0]
  | .getStatusEncWav => [commandWord 0x07 9 0]
  | .getStatusEncOok => [commandWord 0x07 10 0]
  | .getStatusEncPwm => [commandWord 0x07 11 0]
  | .getStatusEncMorse => [commandWord 0x07 12 0]
  | .initializeDecOok n => [commandWord 0x10 1 n]
  | .initializeDecPwm n => [commandWord 0x10 2 n]
  | .initializeDecMorse n => [commandWord 0x10 3 n]
  | .initializeDecRaw n => [commandWord 0x10 4 n]
  | .parseNextSamplesDecOok raw => commandWord 0x11 1 (BitVec.ofNat 16 raw.length) :: packSamples raw
  | .parseNextSamplesDecPwm raw => commandWord 0x11 2 (BitVec.ofNat 16 raw.length) :: packSamples raw
  | .parseNextSamplesDecMorse raw => commandWord 0x11 3 (BitVec.ofNat 16 raw.length) :: packSamples raw
  | .parseNextSamplesDecRaw raw => commandWord 0x11 4 (BitVec.ofNat 16 raw.length) :: packSamples raw
  | .terminateDecOok => [commandWord 0x12 1 0]
  | .terminateDecPwm => [commandWord 0x12 2 0]
  | .terminateDecMorse => [commandWord 0x12 3 0]
  | .terminateDecRaw => [commandWord 0x12 4 0]
  | .readDecodedDecOok m => [commandWord 0x13 1 m]
  | .readDecodedDecPwm m => [commandWord 0x13 2 m]
  | .readDecodedDecMorse m => [commandWord 0x13 3 m]
  | .readDecodedDecRaw m => [commandWord 0x13 4 m]
  | .readCaptureDecOok m => [commandWord 0x14 1 m]
  | .readCaptureDecPwm m => [commandWord 0x14 2 m]
  | .readCaptureDecMorse m => [commandWord 0x14 3 m]
  | .resetEncWave => [commandWord 0x18 8 0]
  | .resetEncWav => [commandWord 0x18 9 0]
  | .resetEncOok => [commandWord 0x18 10 0]
  | .resetEncPwm => [commandWord 0x18 11 0]
  | .resetEncMorse => [commandWord 0x18 12 0]
  | .prepareNextSamplesEncWave k => [commandWord 0x19 8 k]
  | .prepareNextSamplesEncWav k => [commandWord 0x19 9 k]
  | .prepareNextSamplesEncOok k => [commandWord 0x19 10 k]
  | .prepareNextSamplesEncPwm k => [commandWord 0x19 11 k]
  | .prepareNextSamplesEncMorse k => [commandWord 0x19 12 k]
  | .pbLoad format channels bits data => commandWord 0x1A 9 0 :: (channels ++ format) :: ((0 : BitVec 16) ++ bits) :: countWord data.length :: packBytes data
  | .fltCreate n a b => commandWord 0x20 0 n :: countWord a.length :: countWord b.length :: (a ++ b)
  | .fltSetDemod mode fw => [commandWord 0x21 0 mode, fw]
  | .fltSetCapture count => [commandWord 0x22 0 0, count]
  | .fltProcessChunk offset raw => commandWord 0x23 0 offset :: countWord raw.length :: packSamples raw
  | .fltReadOutput => [commandWord 0x24 0 0]
  | .fltReadCapture m => [commandWord 0x25 0 m]
  | .fltRelease => [commandWord 0x26 0 0]
  | .txBind unit => [commandWord 0x30 16 unit]
  | .txStart n => [commandWord 0x31 16 n]
  | .txStop => [commandWord 0x32 16 0]
  | .txStatus => [commandWord 0x33 16 0]
  | .rxBind unit => [commandWord 0x38 17 unit]
  | .rxStart n => [commandWord 0x39 17 n]
  | .rxStop => [commandWord 0x3A 17 0]
  | .rxStatus => [commandWord 0x3B 17 0]
  | .sysStatus => [commandWord 0x3F 255 0]
  | .evTxSent buf count => [fieldsWord 0x80 buf count]
  | .evRxCaptured buf count => [fieldsWord 0x81 buf count]
  | .reqTxSend buf count => [fieldsWord 0x90 buf count]
  | .reqRxCapture buf count => [fieldsWord 0x91 buf count]
  | .reqRxAbort buf count => [fieldsWord 0x92 buf count]

/-! The host's question about one row of the table. -/

/-- The words of a table row: the low `nbits` bits of `w`, 32 a word, the first word least significant. -/
def tableWords (nbits w : Nat) : List Word :=
  (List.range ((nbits + 31) / 32)).map (fun k => BitVec.ofNat 32 (w >>> (32 * k)))

/-- A word list completed with the zero words its command word still asks for (30_encoding.md R101). -/
def withZeroPayload : List Word → List Word
  | [] => []
  | w :: ws =>
    match commandShape? w with
    | none => w :: ws
    | some sh => w :: (ws ++ List.replicate (sh.payloadLen w.arg ws - ws.length) 0)

/-- The instruction of a row of spec/opcode_table.json: a word of the event port by its code, else a transaction of the
command port with the words above `nbits` zero. -/
def decodeTableWord (nbits w : Nat) : Option Instr :=
  match decodeEvent (BitVec.ofNat 32 w) with
  | some i => some i
  | none =>
    match decode (withZeroPayload (tableWords nbits w)) with
    | .instr i _ => some i
    | .illegal _ => none
    | .incomplete => none

end Sys2Proof
end

