-- ==== Sys2Proof/Config.lean ====
section
/-! DEFINITION. The implementation parameters at the values 00_scope.md R9 decides, and the free values: opaque
constants with no body for everything the spec leaves open, so that nothing can be proved of them. -/

namespace Sys2Proof

/-- Which agent (or which timer) takes the next step: the agents of 00_scope.md R12, with the two nondeterministic
expiries of 44_scheduler.md R287 and R290 and the two directions of the event port (30_encoding.md R102). -/
inductive Turn where
  /-- HOST: one command of the command port, or the completion of a withheld stop (R90, R290). -/
  | host
  /-- TXS: the enabled step of R266, if there is one. -/
  | txs
  /-- RXS: the enabled step of R280, if there is one. -/
  | rxs
  /-- The RX capture timeout expires (R287). -/
  | captureTimeout
  /-- The join timeout of a blocked stop expires (R290). -/
  | joinExpiry
  /-- TRANSPORT delivers the next event word (R312). -/
  | event
  /-- TRANSPORT takes the next request word from the event port (R102). -/
  | request
deriving DecidableEq, Repr, Inhabited

namespace Config

/-- `SAMPLE_W`: bits of a sample container (R9). -/
def sampleW : Nat := 16

/-- `RX_BITS`: significant bits of an RX sample; a bound on what TRANSPORT may write, not checked (R9, R133, R354). -/
def rxBits : Nat := 12

/-- `TX_BITS`: significant bits of a TX sample (R9). -/
def txBits : Nat := 10

/-- `TX_MAX = 2^TX_BITS - 1` (R9). -/
def txMax : Nat := 2 ^ txBits - 1

/-- `MAG`: magnification of the fractional sample cursor (R9, R13). -/
def mag : Nat := 1000000

/-- `CHUNK_MAX` (R9). -/
def chunkMax : Nat := 65535

/-- `ORDER_MAX` (R9). -/
def orderMax : Nat := 15

/-- `CAP_MAX` (R9). -/
def capMax : Nat := 65536

/-- `STR_MAX` (R9). -/
def strMax : Nat := 255

/-- `PB_MAX` (R9). -/
def pbMax : Nat := 1048576

/-- `SWEEP_LUT_MAX` (R9). -/
def sweepLutMax : Nat := 1048576

/-- `TX_POOL`: number of TX buffers (R9). -/
def txPool : Nat := 2

/-- `RX_POOL`: number of RX buffers (R9). -/
def rxPool : Nat := 2

/-- `RX_OVERLAP`: RX re-arms before the decoder callback (R9). -/
def rxOverlap : Bool := false

/-- `TX_PRELOAD`: TX fills every buffer before arming (R9). -/
def txPreload : Bool := true

/-- `MORSE_UNITS`: (dot, dash, symbol gap, character gap, word gap) in units (R9, R195). -/
structure MorseUnits where
  dot : Nat
  dash : Nat
  gapSym : Nat
  gapChar : Nat
  gapWord : Nat
deriving DecidableEq, Repr

/-- The default `MORSE_UNITS` = (1, 3, 1, 3, 7) (R9). -/
def morseUnits : MorseUnits := ⟨1, 3, 1, 3, 7⟩

/-! The free values. -/

/-- FREE VALUE. The order in which agents take steps is no state of PLCPHY (10_state.md R42, 44_scheduler.md R260):
whose turn it is at tick `t` when the model's agenda names nobody. Log entry 1. -/
opaque arbiter (t : Nat) : Turn

/-- FREE VALUE. `cosw(p)` at a phase that is not a multiple of 2^30 (00_scope.md R16): any pattern; the model clamps it
to the range -1..1, which is all R16 says of it. Log entry 13. -/
opaque coswFree (p : BitVec 32) : Real32

/-- FREE VALUE. Sign and payload of the NaN that an operation delivers: IEEE 754 and 00_scope.md R14 leave them open.
`op` tells the operations apart. Log entry 12. -/
opaque nanFree (op : Nat) (a b : Real32) : Real32

/-- FREE VALUE. What reading a sample of a pool buffer gives that nobody has written since reset
(20_memory.md R62, 93_implementation_defined.md U3), at tick `t`, buffer `j`, index `i`. Log entry 10. -/
opaque unwrittenSample (t j i : Nat) : Sample

/-- FREE VALUE. A byte of the playback memory that nobody has written (20_memory.md R66, U3). Log entry 10. -/
opaque unwrittenByte (i : Nat) : Byte

/-- FREE VALUE. An entry of a capture buffer that is not defined (10_state.md R28, U2). Log entry 10. -/
opaque undefinedCapture (k : Nat) : REAL

/-- FREE VALUE. The 16-bit `rlen` field of a response of more than 65,535 words, which the field cannot hold
(30_encoding.md R96). Log entry 4. -/
opaque rlenOverflow (n : Nat) : BitVec 16

/-- FREE VALUE. The pacing register `due_ns` when the exact sum of 44_scheduler.md R273 does not fit its 64 bits.
Log entry 15. -/
opaque dueOverflow (n : Nat) : BitVec 64

end Config

end Sys2Proof
end

