-- ==== Sys2Proof/Machine/Num.lean ====
section
/-! DEFINITION. IEEE 754 binary32 on its patterns, the format 00_scope.md R14 decides: rounding to nearest, ties to even,
every operation rounded on its own, subnormals kept; and the exact-integer primitives of R15 and R16. A finite value is an
exact integer multiple of 2^-149, and every operation is computed exactly and rounded once. Then the record `Num` of R14,
the structure `Numerics`, over any format, and its value for PLCPHY, `Num.binary32`. -/

namespace Sys2Proof.Machine.Binary32

/-- The sign bit. -/
def sign (v : Real32) : Bool := v.getLsbD 31

/-- Exponent and fraction together: the pattern without its sign. -/
def magBits (v : Real32) : Nat := v.toNat % 2 ^ 31

/-- The pattern of +infinity without its sign. -/
def infBits : Nat := 0x7F800000

def isNaN (v : Real32) : Bool := decide (infBits < magBits v)

def isInf (v : Real32) : Bool := magBits v == infBits

/-- `isZero(v)` is true exactly for +0 and -0 (R14). -/
def isZero (v : Real32) : Bool := magBits v == 0

/-- The magnitude of a finite REAL as a multiple of 2^-149: a subnormal's fraction, or the 24-bit significand shifted
by the exponent. -/
def magUnits (v : Real32) : Nat :=
  let e := magBits v / 2 ^ 23
  let f := magBits v % 2 ^ 23
  if e = 0 then f else (2 ^ 23 + f) * 2 ^ (e - 1)

/-- The value of a finite REAL as a multiple of 2^-149. -/
def units (v : Real32) : Int := if sign v then -(magUnits v : Int) else (magUnits v : Int)

/-- A pattern from its sign and magnitude bits. -/
def pack (neg : Bool) (m : Nat) : Real32 := BitVec.ofNat 32 (if neg then 2 ^ 31 + m else m)

/-- Round the positive rational `n / d`, in multiples of 2^-149, to nearest with ties to even; past the largest finite
value the result is infinity. The significand has 24 bits, or fewer for a subnormal. -/
def roundMag (n d : Nat) : Nat :=
  let k := Nat.log2 (n / d) - 23
  let dk := d * 2 ^ k
  let q := n / dk
  let r := n % dk
  let q' := if 2 * r > dk || (2 * r == dk && q % 2 == 1) then q + 1 else q
  min (k * 2 ^ 23 + q') infBits

/-- The NaN an operation delivers: a quiet NaN whose sign and payload are free (log entry 12). -/
def nan (op : Nat) (a b : Real32) : Real32 := (Config.nanFree op a b &&& 0x803FFFFF#32) ||| 0x7FC00000#32

/-- `ofInt` (R14). -/
def ofInt (z : Int) : Real32 :=
  if z = 0 then pack false 0 else pack (decide (z < 0)) (roundMag (z.natAbs * 2 ^ 149) 1)

/-- `add` (R14). An exact zero sum is +0, unless both operands are -0. -/
def add (a b : Real32) : Real32 :=
  if isNaN a || isNaN b then nan 0 a b
  else if isInf a then (if isInf b && sign a != sign b then nan 0 a b else a)
  else if isInf b then b
  else
    let s := units a + units b
    if s = 0 then pack (sign a && sign b) 0 else pack (decide (s < 0)) (roundMag s.natAbs 1)

/-- The negated REAL: the sign bit flipped. -/
def neg (a : Real32) : Real32 := a ^^^ 0x80000000#32

/-- `sub` (R14): the sum with the negated operand; a NaN result is its own. -/
def sub (a b : Real32) : Real32 :=
  if isNaN a || isNaN b then nan 1 a b
  else if isInf a && isInf b && sign a == sign b then nan 1 a b
  else add a (neg b)

/-- `mul` (R14). -/
def mul (a b : Real32) : Real32 :=
  let s := sign a != sign b
  if isNaN a || isNaN b then nan 2 a b
  else if isInf a || isInf b then (if isZero a || isZero b then nan 2 a b else pack s infBits)
  else if isZero a || isZero b then pack s 0
  else pack s (roundMag (magUnits a * magUnits b) (2 ^ 149))

/-- `div` (R14). -/
def div (a b : Real32) : Real32 :=
  let s := sign a != sign b
  if isNaN a || isNaN b then nan 3 a b
  else if isInf a then (if isInf b then nan 3 a b else pack s infBits)
  else if isInf b then pack s 0
  else if isZero b then (if isZero a then nan 3 a b else pack s infBits)
  else if isZero a then pack s 0
  else pack s (roundMag (magUnits a * 2 ^ 149) (magUnits b))

/-- `abs` (R14): the sign bit cleared. -/
def abs (a : Real32) : Real32 := a &&& 0x7FFFFFFF#32

/-- The order of the patterns that are no NaN: infinities lie outside the finite values, both zeros are equal. -/
def orderKey (a : Real32) : Int := if sign a then -(magBits a : Int) else (magBits a : Int)

/-- `gt` (R14): false when either operand is a NaN. -/
def gt (a b : Real32) : Bool := !isNaN a && !isNaN b && decide (orderKey b < orderKey a)

/-- The REAL 1. -/
def one : Real32 := 0x3F800000#32

/-- A pattern clamped to the range -1..1: one outside it, or a NaN, becomes 1 with its sign. -/
def clampUnit (v : Real32) : Real32 := pack (sign v) (min (magBits v) (magBits one))

/-- `cosw(p)` (00_scope.md R16): exact at the four quadrant points, elsewhere free within -1..1 (log entry 13). -/
def cosw (p : BitVec 32) : Real32 :=
  if p = 0x00000000#32 then one
  else if p = 0x40000000#32 then pack false 0
  else if p = 0x80000000#32 then neg one
  else if p = 0xC0000000#32 then pack false 0
  else clampUnit (Config.coswFree p)

/-- `rnd(v) = floor(v + 1/2)` on the exact value of `v` (R15); R15 says a NaN or an infinity cannot occur (log entry 14). -/
def rnd (v : Real32) : Int :=
  if isNaN v || isInf v then 0 else (2 * units v + 2 ^ 149) / 2 ^ 150

end Sys2Proof.Machine.Binary32

namespace Sys2Proof.Machine

/-- The configuration record `Num` of 00_scope.md R14: every rule that computes with REALs is written against it. -/
structure Numerics where
  ofInt : Int → REAL
  add : REAL → REAL → REAL
  sub : REAL → REAL → REAL
  mul : REAL → REAL → REAL
  div : REAL → REAL → REAL
  abs : REAL → REAL
  gt : REAL → REAL → Bool
  isZero : REAL → Bool
  cosw : BitVec 32 → REAL
  rnd : REAL → Int
  ofBits : Word → REAL
  toBits : REAL → Word

/-- `sinw(p) = cosw((p - 2^30) mod 2^32)` (00_scope.md R16). -/
def Numerics.sinw (N : Numerics) (p : BitVec 32) : REAL := N.cosw (p - 0x40000000#32)

/-! The value for PLCPHY: binary32, in which the number of a REAL is its pattern. -/

namespace Num

/-- The pattern of a REAL. -/
def pattern (v : REAL) : Real32 := BitVec.ofNat 32 v

/-- `ofInt` (R14). -/
def ofInt (z : Int) : REAL := (Binary32.ofInt z).toNat

/-- `add` (R14). -/
def add (a b : REAL) : REAL := (Binary32.add (pattern a) (pattern b)).toNat

/-- `sub` (R14). -/
def sub (a b : REAL) : REAL := (Binary32.sub (pattern a) (pattern b)).toNat

/-- `mul` (R14). -/
def mul (a b : REAL) : REAL := (Binary32.mul (pattern a) (pattern b)).toNat

/-- `div` (R14). -/
def div (a b : REAL) : REAL := (Binary32.div (pattern a) (pattern b)).toNat

/-- `abs` (R14). -/
def abs (a : REAL) : REAL := (Binary32.abs (pattern a)).toNat

/-- `gt` (R14). -/
def gt (a b : REAL) : Bool := Binary32.gt (pattern a) (pattern b)

/-- `isZero` (R14). -/
def isZero (v : REAL) : Bool := Binary32.isZero (pattern v)

/-- `cosw` (R16). -/
def cosw (p : BitVec 32) : REAL := (Binary32.cosw p).toNat

/-- `sinw(p) = cosw((p - 2^30) mod 2^32)` (R16). -/
def sinw (p : BitVec 32) : REAL := cosw (p - 0x40000000#32)

/-- `rnd` (R15). -/
def rnd (v : REAL) : Int := Binary32.rnd (pattern v)

/-- `ofBits` (R14): the interchange encoding. -/
def ofBits (w : Word) : REAL := w.toNat

/-- `toBits` (R14): the interchange encoding. -/
def toBits (v : REAL) : Word := pattern v

/-- A frequency word: `((f_hz * 2^32) div rate) mod 2^32` (R16). -/
def freqWord (fHz rate : Nat) : BitVec 32 := BitVec.ofNat 32 (fHz * 2 ^ 32 / rate)

end Num

/-- The value R14 decides for PLCPHY: IEEE 754 binary32. -/
def Num.binary32 : Numerics :=
  { ofInt := Num.ofInt, add := Num.add, sub := Num.sub, mul := Num.mul, div := Num.div, abs := Num.abs, gt := Num.gt,
    isZero := Num.isZero, cosw := Num.cosw, rnd := Num.rnd, ofBits := Num.ofBits, toBits := Num.toBits }

/-- What 00_scope.md R16 requires of `cosw`: exact at the four quadrant points, and never past 1 or -1. -/
structure Numerics.Legal (N : Numerics) : Prop where
  cos0 : N.cosw 0x00000000#32 = N.ofInt 1
  cos1 : N.isZero (N.cosw 0x40000000#32) = true
  cos2 : N.cosw 0x80000000#32 = N.ofInt (-1)
  cos3 : N.isZero (N.cosw 0xC0000000#32) = true
  upper : ∀ p, N.gt (N.cosw p) (N.ofInt 1) = false
  lower : ∀ p, N.gt (N.ofInt (-1)) (N.cosw p) = false

end Sys2Proof.Machine
end

