-- ==== Sys2Proof/Machine/Params.lean ====
section
/-! DEFINITION. The implementation parameters of 00_scope.md R9 as one record, which the operations of the model take as
an argument `P`; the value PLCPHY has, `Params.plcphy`, is the one the argument stands for where it is not written. Among
them are the read-only tables: the filter presets (42_decoders.md R172), the Morse alphabet (R196) and the plugin ABI
records (44_scheduler.md R261). -/

namespace Sys2Proof.Machine

/-- A row of `FILTER_PRESETS` (42_decoders.md R172): the coefficients are REALs. -/
structure FilterPreset where
  name : String
  a : List REAL
  b : List REAL
deriving DecidableEq, Repr

/-- `FILTER_PRESETS` (42_decoders.md R172): identity; (x[n] + x[n-1]) / 2; x[n]/4 + 3 y[n-1]/4. -/
def filterPresets : List FilterPreset :=
  [ ⟨"none", [0x3F800000], [0x3F800000]⟩,
    ⟨"avg2", [0x3F800000], [0x3F000000, 0x3F000000]⟩,
    ⟨"lp_pole", [0x3F800000, 0xBF400000], [0x3E800000]⟩ ]

/-- A row of `MORSE_TABLE`: a character and its elements in order, true for a dash (42_decoders.md R196). -/
structure MorseRow where
  char : Byte
  code : List Bool
deriving DecidableEq, Repr

/-- The letters A to M of `MORSE_TABLE` (42_decoders.md R196). -/
def morseLettersLow : List MorseRow :=
  [ ⟨0x41, [false, true]⟩, ⟨0x42, [true, false, false, false]⟩, ⟨0x43, [true, false, true, false]⟩,
    ⟨0x44, [true, false, false]⟩, ⟨0x45, [false]⟩, ⟨0x46, [false, false, true, false]⟩,
    ⟨0x47, [true, true, false]⟩, ⟨0x48, [false, false, false, false]⟩, ⟨0x49, [false, false]⟩,
    ⟨0x4A, [false, true, true, true]⟩, ⟨0x4B, [true, false, true]⟩, ⟨0x4C, [false, true, false, false]⟩,
    ⟨0x4D, [true, true]⟩ ]

/-- The letters N to Z of `MORSE_TABLE` (42_decoders.md R196). -/
def morseLettersHigh : List MorseRow :=
  [ ⟨0x4E, [true, false]⟩, ⟨0x4F, [true, true, true]⟩, ⟨0x50, [false, true, true, false]⟩,
    ⟨0x51, [true, true, false, true]⟩, ⟨0x52, [false, true, false]⟩, ⟨0x53, [false, false, false]⟩,
    ⟨0x54, [true]⟩, ⟨0x55, [false, false, true]⟩, ⟨0x56, [false, false, false, true]⟩,
    ⟨0x57, [false, true, true]⟩, ⟨0x58, [true, false, false, true]⟩, ⟨0x59, [true, false, true, true]⟩,
    ⟨0x5A, [true, true, false, false]⟩ ]

/-- The digits 0 to 9 of `MORSE_TABLE` (42_decoders.md R196). -/
def morseDigits : List MorseRow :=
  [ ⟨0x30, [true, true, true, true, true]⟩, ⟨0x31, [false, true, true, true, true]⟩,
    ⟨0x32, [false, false, true, true, true]⟩, ⟨0x33, [false, false, false, true, true]⟩,
    ⟨0x34, [false, false, false, false, true]⟩, ⟨0x35, [false, false, false, false, false]⟩,
    ⟨0x36, [true, false, false, false, false]⟩, ⟨0x37, [true, true, false, false, false]⟩,
    ⟨0x38, [true, true, true, false, false]⟩, ⟨0x39, [true, true, true, true, false]⟩ ]

/-- `MORSE_TABLE`, the alphabet of the Morse decoder and encoder (42_decoders.md R196). -/
def morseTable : List MorseRow := morseLettersLow ++ morseLettersHigh ++ morseDigits

/-- The kind a plugin table is for (44_scheduler.md R261). -/
inductive PluginKind where
  | decoder | encoder
deriving DecidableEq, Repr

/-- A plugin's ABI record (44_scheduler.md R261): `present` has bit k set iff entry k of the table is there. -/
structure AbiRecord where
  kind : PluginKind
  major : BitVec 16
  minor : BitVec 16
  tableSize : BitVec 16
  present : BitVec 16
deriving DecidableEq, Repr

/-- The `ABI` records of PLCPHY's own units (44_scheduler.md R261). -/
def abiRecord : PluginUnit → AbiRecord
  | .dec _ => ⟨.decoder, 1, 0, 9, 0xFFFF⟩
  | .enc _ => ⟨.encoder, 1, 0, 8, 0xFFFF⟩

/-- `EXPECT_DEC` and `EXPECT_ENC`: entries of the expected table (44_scheduler.md R261). -/
def abiExpected : PluginKind → Nat
  | .decoder => 9
  | .encoder => 8

/-- The parameters of 00_scope.md R9 that a rule depends on. `MAG` and `PHASE_W` are no fields: R9 fixes them. The bounds
R9 leaves OPEN are no fields either: no rule depends on one (log entries 19, 26). -/
structure Params where
  /-- `SAMPLE_W`; at most 16, since 30_encoding.md R94 packs two samples in a word (log entry 26). -/
  sampleW : Nat
  /-- `RX_BITS`: what TRANSPORT may write (R9, 70_reset_and_hazards.md R354); not checked (40_filter.md R133). -/
  rxBits : Nat
  /-- `TX_BITS`. -/
  txBits : Nat
  chunkMax : Nat
  orderMax : Nat
  capMax : Nat
  strMax : Nat
  pbMax : Nat
  sweepLutMax : Nat
  txPool : Nat
  rxPool : Nat
  rxOverlap : Bool
  txPreload : Bool
  num : Numerics
  filterPresets : List FilterPreset
  morseTable : List MorseRow
  morseUnits : Config.MorseUnits
  abi : PluginUnit → AbiRecord

/-- `TX_MAX = 2^TX_BITS - 1` (00_scope.md R9). -/
def Params.txMax (P : Params) : Nat := 2 ^ P.txBits - 1

/-- What a sample container holds of a 16-bit half word: its low `SAMPLE_W` bits (00_scope.md R9, 40_filter.md R133). -/
def Params.contained (P : Params) (v : Sample) : Nat := v.toNat % 2 ^ P.sampleW

/-- The values this spec decides for PLCPHY (00_scope.md R9). -/
def Params.plcphy : Params :=
  { sampleW := Config.sampleW, rxBits := Config.rxBits, txBits := Config.txBits, chunkMax := Config.chunkMax,
    orderMax := Config.orderMax, capMax := Config.capMax, strMax := Config.strMax, pbMax := Config.pbMax, sweepLutMax := Config.sweepLutMax,
    txPool := Config.txPool, rxPool := Config.rxPool, rxOverlap := Config.rxOverlap, txPreload := Config.txPreload,
    num := Num.binary32, filterPresets := Machine.filterPresets, morseTable := Machine.morseTable, morseUnits := Config.morseUnits,
    abi := abiRecord }

/-- The constraints of 00_scope.md R9 on the parameters, with at most 16 bits to a container, and of the rules R9 refers
to: 42_decoders.md R172 on every row of `FILTER_PRESETS`, R196 on `MORSE_TABLE`. Like R9 it bounds the pools from below
only and leaves the kinds of `ABI` open: what the model does with a pool of more than 255 buffers, and with an `ABI`
record whose kind is not the unit's own, is its DESIGN CHOICE (log entries 32 and 31); so is what it does with a parameter
that a word or a register of fixed width cannot follow (log entries 33 to 35). -/
structure Params.Legal (P : Params) : Prop where
  sampleW : P.sampleW ≤ 16
  rxBits : 1 ≤ P.rxBits ∧ P.rxBits ≤ P.sampleW
  txBits : 1 ≤ P.txBits ∧ P.txBits ≤ P.sampleW
  chunkMax : 1 ≤ P.chunkMax
  txPool : 2 ≤ P.txPool
  rxPool : 2 ≤ P.rxPool
  num : P.num.Legal
  presets : ∀ row ∈ P.filterPresets,
    1 ≤ row.a.length ∧ row.a.length ≤ P.orderMax + 1 ∧ 1 ≤ row.b.length ∧ row.b.length ≤ P.orderMax + 1
      ∧ P.num.isZero (row.a.getD 0 (P.num.ofInt 0)) = false
  identity : ∃ row, P.filterPresets.head? = some row ∧ row.a = [P.num.ofInt 1] ∧ row.b = [P.num.ofInt 1]
  morseChars : (P.morseTable.map (·.char)).Nodup
  morseCodes : (P.morseTable.map (·.code)).Nodup
  morseElements : ∀ row ∈ P.morseTable, 1 ≤ row.code.length ∧ row.code.length ≤ 6
  morseGaps : P.morseUnits.gapSym ≤ P.morseUnits.gapChar ∧ P.morseUnits.gapChar ≤ P.morseUnits.gapWord

/-- `clampTX(v)` over `Int` (00_scope.md R15). -/
def Num.clampTX (v : Int) (P : Params := .plcphy) : Sample :=
  BitVec.ofNat 16 (if v < 0 then 0 else if v > (P.txMax : Int) then P.txMax else v.toNat)

end Sys2Proof.Machine
end

