-- ==== Sys2Proof/Machine/Tables.lean ====
section
/-! DEFINITION. Setting values and the settings of every unit (10_state.md R22, R23). -/

namespace Sys2Proof.Machine

/-- A setting value: a tagged variant over the type tags of 30_encoding.md R97 (10_state.md R23). -/
inductive SetVal where
  | bool (v : Bool)
  | i8 (v : BitVec 8)
  | u8 (v : BitVec 8)
  | i16 (v : BitVec 16)
  | u16 (v : BitVec 16)
  | i32 (v : BitVec 32)
  | u32 (v : BitVec 32)
  | i64 (v : BitVec 64)
  | u64 (v : BitVec 64)
  | float (v : BitVec 32)
  | double (v : BitVec 64)
  | string (v : List Byte)
  | enum (v : BitVec 32)
  | callback (v : BitVec 64)
deriving DecidableEq, Repr

/-- The number of a value's type tag (30_encoding.md R97). -/
def SetVal.tag : SetVal → Nat
  | .bool _ => 0
  | .i8 _ => 1
  | .u8 _ => 2
  | .i16 _ => 3
  | .u16 _ => 4
  | .i32 _ => 5
  | .u32 _ => 6
  | .i64 _ => 7
  | .u64 _ => 8
  | .float _ => 9
  | .double _ => 10
  | .string _ => 11
  | .enum _ => 12
  | .callback _ => 13

/-- A value read as an unsigned number; a string has none and reads as 0. -/
def SetVal.num : SetVal → Nat
  | .bool v => v.toNat
  | .i8 v => v.toNat
  | .u8 v => v.toNat
  | .i16 v => v.toNat
  | .u16 v => v.toNat
  | .i32 v => v.toNat
  | .u32 v => v.toNat
  | .i64 v => v.toNat
  | .u64 v => v.toNat
  | .float v => v.toNat
  | .double v => v.toNat
  | .string _ => 0
  | .enum v => v.toNat
  | .callback v => v.toNat

/-- The bytes of a string value. -/
def SetVal.bytes : SetVal → List Byte
  | .string v => v
  | _ => []

/-- The zero of a value's own tag: what a setting register holds before `CREATE` (log entry 9). -/
def SetVal.zero : SetVal → SetVal
  | .bool _ => .bool false
  | .i8 _ => .i8 0
  | .u8 _ => .u8 0
  | .i16 _ => .i16 0
  | .u16 _ => .u16 0
  | .i32 _ => .i32 0
  | .u32 _ => .u32 0
  | .i64 _ => .i64 0
  | .u64 _ => .u64 0
  | .float _ => .float 0
  | .double _ => .double 0
  | .string _ => .string []
  | .enum _ => .enum 0
  | .callback _ => .callback 0

/-- One setting of a unit: a row of the table of 10_state.md R22. The legal values are `lo..hi` for an integer tag,
the indices of `captions` for an enum, both truth values for a bool, every string of at most `STR_MAX` bytes. -/
structure SettingDef where
  id : Nat
  name : String
  default : SetVal
  lo : Nat := 0
  hi : Nat := 0
  captions : List String := []
deriving DecidableEq, Repr

/-! Setting identifiers (10_state.md R22). -/

def idSamplingRate : Nat := 0
def idBitWidth : Nat := 1
def idDataOffset : Nat := 2
def idDataHiThreshold : Nat := 3
def idDemodMode : Nat := 4
def idDemodFreq : Nat := 5
def idFilter : Nat := 6
def idBitsPerDatum : Nat := 7
def idDataPerFrame : Nat := 8
def idAutoResync : Nat := 9
def idSamplesToCapture : Nat := 10
def idStreamType : Nat := 16
def idOffset : Nat := 17
def idRange : Nat := 18
def idFreq : Nat := 19
def idFreqEnd : Nat := 20
def idSweepIterations : Nat := 21
def idSweepIterationSamples : Nat := 22
def idSweepPrecomputed : Nat := 23
def idRepeat : Nat := 26
def idMessage : Nat := 27
def idStartGuard : Nat := 28
def idInterByteGuard : Nat := 29
def idGapUnits : Nat := 30

/-- A u32 setting with legal values `lo..hi`. -/
def u32Setting (id : Nat) (name : String) (dflt : BitVec 32) (lo hi : Nat) : SettingDef :=
  { id := id, name := name, default := .u32 dflt, lo := lo, hi := hi }

/-- A u16 setting with legal values 0..65,535. -/
def u16Setting (id : Nat) (name : String) (dflt : BitVec 16) : SettingDef :=
  { id := id, name := name, default := .u16 dflt, lo := 0, hi := 65535 }

/-- Setting 0 (units DO DP DM EW EO EQ EM). -/
def defSamplingRate : SettingDef := u32Setting idSamplingRate "sampling_rate_sps" 100000 1 4294967295

/-- Setting 1 (units DO DP DM EO EQ EM). -/
def defBitWidth : SettingDef := u32Setting idBitWidth "bit_width_us" 1000 1 4294967295

/-- Setting 17 (all encoders). -/
def defOffset : SettingDef := u16Setting idOffset "offset" 512

/-- Setting 18 (units EW EO EQ EM). -/
def defRange : SettingDef := u16Setting idRange "range" 400

/-- Setting 19, whose default depends on the unit (units EW EO EQ EM). -/
def defFreq (dflt : BitVec 32) : SettingDef := u32Setting idFreq "freq_hz" dflt 0 4294967295

/-- Setting 27 (units EO EQ EM). -/
def defMessage : SettingDef := { id := idMessage, name := "message", default := .string [] }

/-- The settings every decoder but the raw one has, below identifier 7 (10_state.md R22). -/
def decSettingsLow (P : Params := .plcphy) : List SettingDef :=
  [ defSamplingRate, defBitWidth,
    u16Setting idDataOffset "data_offset" 512,
    u16Setting idDataHiThreshold "data_hi_threshold" 100,
    { id := idDemodMode, name := "demod_mode", default := .enum 1, captions := ["none", "abs", "cos"] },
    u32Setting idDemodFreq "demod_freq_hz" 0 0 4294967295,
    { id := idFilter, name := "filter", default := .enum 0, captions := P.filterPresets.map (·.name) } ]

/-- Setting 10 (units DO DP DM). -/
def defSamplesToCapture (P : Params := .plcphy) : SettingDef :=
  u32Setting idSamplesToCapture "samples_to_capture" 0 0 P.capMax

/-- The settings of a unit, in ascending identifier order (10_state.md R22). -/
def settingTable (u : PluginUnit) (P : Params := .plcphy) : List SettingDef :=
  match u with
  | .dec .ook => decSettingsLow P ++
      [ { id := idBitsPerDatum, name := "bits_per_datum", default := .u8 8, lo := 1, hi := 8 },
        u32Setting idDataPerFrame "data_per_frame" 1 1 4294967295,
        { id := idAutoResync, name := "auto_resynchronization", default := .bool false },
        defSamplesToCapture P ]
  | .dec .pwm => decSettingsLow P ++ [defSamplesToCapture P]
  | .dec .morse => decSettingsLow P ++ [defSamplesToCapture P]
  | .dec .raw => []
  | .enc .wave =>
      [ defSamplingRate,
        { id := idStreamType, name := "stream_type", default := .enum 4,
          captions := ["constant", "ramp", "triangular", "square", "sine", "sweep"] },
        defOffset, defRange, defFreq 1000,
        u32Setting idFreqEnd "freq_end_hz" 2000 0 4294967295,
        u32Setting idSweepIterations "sweep_iterations" 10 1 65535,
        u32Setting idSweepIterationSamples "sweep_iteration_samples" 1000 1 4294967295,
        { id := idSweepPrecomputed, name := "sweep_precomputed", default := .bool false } ]
  | .enc .wav => [ defOffset, { id := idRepeat, name := "repeat", default := .bool false } ]
  | .enc .ook =>
      [ defSamplingRate, defBitWidth, defOffset, defRange, defFreq 0, defMessage,
        u32Setting idStartGuard "start_guard_symbols" 32 0 4294967295,
        u32Setting idInterByteGuard "inter_byte_guard_symbols" 32 0 4294967295 ]
  | .enc .pwm =>
      [ defSamplingRate, defBitWidth, defOffset, defRange, defFreq 0, defMessage,
        u32Setting idGapUnits "gap_units" 32 0 4294967295 ]
  | .enc .morse => [ defSamplingRate, defBitWidth, defOffset, defRange, defFreq 0, defMessage ]

/-- The setting of a unit with this identifier, if the unit has one. -/
def settingDef? (u : PluginUnit) (id : Nat) (P : Params := .plcphy) : Option SettingDef :=
  (settingTable u P).find? (fun d => d.id == id)

end Sys2Proof.Machine
end

