-- ==== Sys2Proof/Machine/State.lean ====
section
/-! DEFINITION. The state of PLCPHY as plain data (10_state.md, 20_memory.md), the two ways a step can stop, the
accessors of the registers that several units have in common, and the state after reset (70_reset_and_hazards.md R340). -/

namespace Sys2Proof.Machine

/-- The lifecycle register `lc` (10_state.md R25). -/
inductive Lc where
  | absent | idle | config | active
deriving DecidableEq, Repr

/-- The register `bound` (10_state.md R25). -/
inductive Bound where
  | unbound | tx | rx
deriving DecidableEq, Repr

/-- The lifecycle, flag, status and settings registers of one plugin unit (10_state.md R22, R25). `settings` holds one
register per setting of the unit, by ascending identifier. -/
structure Plug where
  lc : Lc
  ready : Bool
  txnError : Bool
  errStatus : BitVec 8
  errMsg : BitVec 8
  bound : Bound
  settings : List (Nat × SetVal)
deriving DecidableEq, Repr

/-- The register `demod` of a filter (10_state.md R27); the value 3 is reserved and never stored. -/
inductive Demod where
  | none | abs | cos
deriving DecidableEq, Repr

/-- One filter instance (10_state.md R27, R28). `NA` and `NB` are the lengths of `a` and `b`. `cap` is the capture
memory: entry k is listed once it has been written. -/
structure Flt where
  allocated : Bool
  n : BitVec 16
  a : List REAL
  b : List REAL
  p : Nat
  xb : List REAL
  yb : List REAL
  valid : Bool
  demod : Demod
  fw : BitVec 32
  phase : BitVec 32
  capLen : Nat
  capRem : Nat
  cap : List (Nat × REAL)
deriving DecidableEq, Repr

/-- The derived registers of DEC_OOK, DEC_PWM and DEC_MORSE (10_state.md R29). -/
structure DecDerived where
  spsNum : BitVec 64
  thr : REAL
  off : BitVec 16
  dmode : Demod
  dfw : BitVec 32
  preset : Nat
  capn : BitVec 32
deriving DecidableEq, Repr

/-- What DEC_OOK, DEC_PWM and DEC_MORSE have in common: the plugin registers, the derived registers, the filter
instance each owns and the decoded-byte stream `dout` (10_state.md R25, R29, R40; 42_decoders.md R170). -/
structure DecCore where
  plug : Plug
  der : DecDerived
  flt : Flt
  dout : List Byte
deriving DecidableEq, Repr

/-- The register `ook_phase` (10_state.md R30). -/
inductive OokPhase where
  | search | data | waitIdle
deriving DecidableEq, Repr

/-- The bit-timing state of the OOK decoder (10_state.md R30). -/
structure OokRegs where
  n75 : BitVec 32
  bpd : Nat
  dpf : BitVec 32
  phase : OokPhase
  run : BitVec 64
  posMag : Int
  datum : BitVec 8
  bitcnt : Nat
  datacnt : BitVec 32
deriving DecidableEq, Repr

/-- The PWM decoder's state (10_state.md R31). -/
structure PwmRegs where
  confirm : BitVec 64
  w : BitVec 64
  wo : BitVec 64
deriving DecidableEq, Repr

/-- The Morse decoder's state (10_state.md R32). -/
structure MorseRegs where
  tDot : BitVec 64
  tDash : BitVec 64
  tChar : BitVec 64
  tWord : BitVec 64
  w : BitVec 64
  wo : BitVec 64
  codeLen : Nat
  codeBits : BitVec 7
  hadChar : Bool
deriving DecidableEq, Repr

/-- Unit 1. -/
structure DecOok where
  core : DecCore
  ook : OokRegs
deriving DecidableEq, Repr

/-- Unit 2. -/
structure DecPwm where
  core : DecCore
  pwm : PwmRegs
deriving DecidableEq, Repr

/-- Unit 3. -/
structure DecMorse where
  core : DecCore
  morse : MorseRegs
deriving DecidableEq, Repr

/-- Unit 4: no working state and no filter (10_state.md R33). -/
structure DecRaw where
  plug : Plug
  dout : List Byte
deriving DecidableEq, Repr

/-- Unit 8: the wave encoder (10_state.md R35). `swLut` is the sweep lookup memory, one list per iteration
(20_memory.md R60). -/
structure EncWave where
  plug : Plug
  stype : Nat
  efw : BitVec 32
  rng : BitVec 16
  lo : Int
  amp : BitVec 16
  lvl0 : Sample
  k : BitVec 32
  swFw : List (BitVec 32)
  swLen : List (BitVec 32)
  swLut : List (List Sample)
  phase : BitVec 32
  sweepIter : BitVec 32
  sweepN : BitVec 32
deriving DecidableEq, Repr

/-- Unit 9: the playback encoder (10_state.md R36). -/
structure EncWav where
  plug : Plug
  pbFormat : BitVec 16
  pbChannels : BitVec 16
  pbBits : BitVec 16
  pbBytes : BitVec 32
  pbCount : BitVec 32
  lvl0 : Sample
  rep : Bool
  pbIdx : BitVec 32
  pbDone : Bool
deriving DecidableEq, Repr

/-- One segment of a bit-stream encoder: carrier on or off for `d` symbol periods (43_encoders.md R219). -/
structure Segment where
  on : Bool
  d : Nat
deriving DecidableEq, Repr

/-- Units 10, 11 and 12: a sequenced encoder (10_state.md R34). -/
structure EncSeq where
  plug : Plug
  spsNum : BitVec 64
  efw : BitVec 32
  amp : BitVec 16
  lvl0 : Sample
  segs : List Segment
  segIdx : BitVec 32
  acc : Int
  curOn : Bool
  done : Bool
  phase : BitVec 32
deriving DecidableEq, Repr

/-- TXS `state` (10_state.md R37). -/
inductive TxState where
  | idle | preloading | armed | running | stopping
deriving DecidableEq, Repr

/-- TXS `phase` (10_state.md R37). -/
inductive TxPhase where
  | check | fill | pace | wait | hand
deriving DecidableEq, Repr

/-- The TX scheduler registers (10_state.md R37). -/
structure Txs where
  state : TxState
  phase : TxPhase
  enc : Option EncUnit
  n : BitVec 16
  fillIdx : Nat
  inflight : Option Nat
  stopReq : Bool
  forced : Bool
  cycles : BitVec 64
  dueNs : BitVec 64
  dueRem : BitVec 32
deriving DecidableEq, Repr

/-- RXS `state` (10_state.md R38). -/
inductive RxState where
  | idle | armed | running | stopping
deriving DecidableEq, Repr

/-- RXS `phase` (10_state.md R38). -/
inductive RxPhase where
  | check | trigger | wait | dispatch
deriving DecidableEq, Repr

/-- The RX scheduler registers (10_state.md R38). -/
structure Rxs where
  state : RxState
  phase : RxPhase
  dec : Option DecUnit
  n : BitVec 16
  wrIdx : Nat
  rdIdx : Nat
  pending : Nat
  armedBuf : Option Nat
  stopReq : Bool
  forced : Bool
  captured : BitVec 64
  timeouts : BitVec 64
deriving DecidableEq, Repr

/-- The `owner` bit of a pool buffer (20_memory.md R63): its scheduler, or TRANSPORT. -/
inductive Owner where
  | sched | transport
deriving DecidableEq, Repr

/-- One buffer of a sample pool: its owner and its samples by index; a sample nobody has written is not listed
(20_memory.md R60, R61, R63). -/
structure PoolBuf where
  owner : Owner
  samples : List (Nat × Sample)
deriving DecidableEq, Repr

/-- A direction: TX or RX. -/
inductive Dir where
  | tx | rx
deriving DecidableEq, Repr

/-- What a request word names: a buffer and a number of samples (30_encoding.md R102). -/
structure Grant where
  buf : Byte
  count : BitVec 16
deriving DecidableEq, Repr

/-- One move of the environment or of an agent, in the order the agenda lists them (00_scope.md R12; log entry 1). -/
inductive Move where
  /-- An agent or a timer takes its turn. -/
  | turn (t : Turn)
  /-- TRANSPORT reads sample `i` of TX buffer `j` (20_memory.md R60, R62). -/
  | txRead (j i : Nat)
  /-- TRANSPORT writes `v` to sample `i` of RX buffer `j` (20_memory.md R60, R62). -/
  | rxWrite (j i : Nat) (v : Sample)
  /-- TRANSPORT writes `v` to sample `i` of TX buffer `j`: against 70_reset_and_hazards.md R354 (2), but an access R62
  gives its effect (20_memory.md R62; log entry 7). -/
  | txWrite (j i : Nat) (v : Sample)
  /-- TRANSPORT reads sample `i` of RX buffer `j`: against 70_reset_and_hazards.md R354 (2), but an access R62 gives its
  effect (20_memory.md R62; log entry 7). -/
  | rxRead (j i : Nat)
  /-- The level input `tx_busy` becomes `b` (60_exceptions.md R310). -/
  | txBusy (b : Bool)
  /-- The level input `rx_busy` becomes `b` (60_exceptions.md R310). -/
  | rxBusy (b : Bool)
  /-- The reset input `rst` is asserted (70_reset_and_hazards.md R340). -/
  | rst
deriving DecidableEq, Repr

/-- The whole state. The first group is the spec's (10_state.md R20); the second is the model's own: the ports' words,
TRANSPORT's side of the event port and the agenda (log entries 1, 2, 3, 6). -/
structure State where
  /-- The halt latch (10_state.md R21). -/
  halted : Bool
  /-- The code of the fatal error (10_state.md R21). -/
  fatalCode : BitVec 8
  /-- Unit 0. -/
  flt : Flt
  decOok : DecOok
  decPwm : DecPwm
  decMorse : DecMorse
  decRaw : DecRaw
  encWave : EncWave
  encWav : EncWav
  encOok : EncSeq
  encPwm : EncSeq
  encMorse : EncSeq
  /-- Unit 16. -/
  txs : Txs
  /-- Unit 17. -/
  rxs : Rxs
  /-- `TXPOOL` with the owner bits (20_memory.md R60, R63). -/
  txPool : List PoolBuf
  /-- The `filled` bits of the TX buffers (20_memory.md R63). -/
  txFilled : List Bool
  /-- `RXPOOL` with the owner bits (20_memory.md R60, R63). -/
  rxPool : List PoolBuf
  /-- The playback memory `PBM`: bytes by index, one nobody has written not listed (20_memory.md R66). -/
  pbm : List Host.Cell
  /-- The TX event queue (60_exceptions.md R312). -/
  txQueue : List Word
  /-- The RX event queue (60_exceptions.md R312). -/
  rxQueue : List Word
  /-- The `TX_STOP` or `RX_STOP` whose response is withheld (44_scheduler.md R290). -/
  stopWait : Option Dir
  /-- The level input `tx_busy` (60_exceptions.md R310). -/
  txBusy : Bool
  /-- The level input `rx_busy` (60_exceptions.md R310). -/
  rxBusy : Bool
  /-- MODEL'S OWN. Words HOST has put on the command port and PLCPHY has not consumed (30_encoding.md R90). -/
  cmdIn : List Word
  /-- MODEL'S OWN. The status word and response words of the last transaction (30_encoding.md R90, R96). -/
  rsp : List Word
  /-- MODEL'S OWN. Words TRANSPORT sends on the event port, not yet delivered (30_encoding.md R102). -/
  evIn : List Word
  /-- MODEL'S OWN. Request words PLCPHY has emitted on the event port, not yet taken (30_encoding.md R102). -/
  evOut : List Word
  /-- MODEL'S OWN. The TX buffer TRANSPORT may touch: from the emission of its request word to its completion event
  (70_reset_and_hazards.md R354 (1); log entry 6). -/
  txHas : Option Byte
  /-- MODEL'S OWN. The RX buffer TRANSPORT may touch: from the emission of its request word to its completion event or the
  abort request for it (70_reset_and_hazards.md R354 (1); log entry 6). -/
  rxHas : Option Byte
  /-- MODEL'S OWN. The TX request word TRANSPORT has taken and not completed (30_encoding.md R102). -/
  txGrant : Option Grant
  /-- MODEL'S OWN. The RX request word TRANSPORT has taken and not completed (30_encoding.md R102). -/
  rxGrant : Option Grant
  /-- MODEL'S OWN. The samples TRANSPORT has read from the pools, oldest first. -/
  line : List Sample
  /-- MODEL'S OWN. The moves to come; where it is empty `Config.arbiter` chooses. -/
  agenda : List Move
  /-- MODEL'S OWN. The number of steps taken: the argument of the free values. -/
  tick : Nat
deriving DecidableEq, Repr

/-- The reasons a step stops. No command and no event word ends in one. -/
inductive Fault where
  /-- Raised by a TXS step that fills a buffer, or by an RXS step that dispatches one, while no unit is bound to the
  scheduler: 44_scheduler.md gives such a step no effect, and no run reaches it (R267, R281, R148). SAFE: the model stops
  where the spec says nothing. Log entry 18. -/
  | unbound
deriving DecidableEq, Repr

/-- The reasons an instruction is refused. Every row of the opcode table has its meaning, so no arm uses it. -/
inductive Refusal where
  /-- Raised by an arm of `exec` whose instruction has no meaning yet. SAFE: the model stops. -/
  | notModelled (mnemonic : String)
deriving DecidableEq, Repr

/-! Accessors of the registers that several units have. -/

/-- The plugin registers of a unit. -/
def State.plug (s : State) : PluginUnit → Plug
  | .dec .ook => s.decOok.core.plug
  | .dec .pwm => s.decPwm.core.plug
  | .dec .morse => s.decMorse.core.plug
  | .dec .raw => s.decRaw.plug
  | .enc .wave => s.encWave.plug
  | .enc .wav => s.encWav.plug
  | .enc .ook => s.encOok.plug
  | .enc .pwm => s.encPwm.plug
  | .enc .morse => s.encMorse.plug

/-- Write the plugin registers of a unit. -/
def State.setPlug (s : State) (u : PluginUnit) (p : Plug) : State :=
  match u with
  | .dec .ook => { s with decOok := { s.decOok with core := { s.decOok.core with plug := p } } }
  | .dec .pwm => { s with decPwm := { s.decPwm with core := { s.decPwm.core with plug := p } } }
  | .dec .morse => { s with decMorse := { s.decMorse with core := { s.decMorse.core with plug := p } } }
  | .dec .raw => { s with decRaw := { s.decRaw with plug := p } }
  | .enc .wave => { s with encWave := { s.encWave with plug := p } }
  | .enc .wav => { s with encWav := { s.encWav with plug := p } }
  | .enc .ook => { s with encOok := { s.encOok with plug := p } }
  | .enc .pwm => { s with encPwm := { s.encPwm with plug := p } }
  | .enc .morse => { s with encMorse := { s.encMorse with plug := p } }

/-- The decoded-byte stream of a decoder (10_state.md R40). -/
def State.dout (s : State) : DecUnit → List Byte
  | .ook => s.decOok.core.dout
  | .pwm => s.decPwm.core.dout
  | .morse => s.decMorse.core.dout
  | .raw => s.decRaw.dout

/-- Write the decoded-byte stream of a decoder. -/
def State.setDout (s : State) (d : DecUnit) (bs : List Byte) : State :=
  match d with
  | .ook => { s with decOok := { s.decOok with core := { s.decOok.core with dout := bs } } }
  | .pwm => { s with decPwm := { s.decPwm with core := { s.decPwm.core with dout := bs } } }
  | .morse => { s with decMorse := { s.decMorse with core := { s.decMorse.core with dout := bs } } }
  | .raw => { s with decRaw := { s.decRaw with dout := bs } }

/-- The filter instance of a decoder; the raw decoder has none (10_state.md R33). -/
def State.decFlt (s : State) : DecUnit → Option Flt
  | .ook => some s.decOok.core.flt
  | .pwm => some s.decPwm.core.flt
  | .morse => some s.decMorse.core.flt
  | .raw => none

/-- Write the filter instance of a decoder; nothing for the raw decoder. -/
def State.setDecFlt (s : State) (d : DecUnit) (f : Flt) : State :=
  match d with
  | .ook => { s with decOok := { s.decOok with core := { s.decOok.core with flt := f } } }
  | .pwm => { s with decPwm := { s.decPwm with core := { s.decPwm.core with flt := f } } }
  | .morse => { s with decMorse := { s.decMorse with core := { s.decMorse.core with flt := f } } }
  | .raw => s

/-! Reset values. -/

/-- The settings registers before `CREATE`: the spec gives no value (R43, R341); the model names zero (log entry 9).
Identifiers and tags are the same for all parameters. -/
def resetSettings (u : PluginUnit) : List (Nat × SetVal) :=
  (settingTable u).map (fun d => (d.id, d.default.zero))

/-- The plugin registers after reset (10_state.md R25, R43). -/
def Plug.reset (u : PluginUnit) : Plug :=
  { lc := .absent, ready := false, txnError := false, errStatus := 0, errMsg := 0, bound := .unbound,
    settings := resetSettings u }

/-- A filter instance after reset (10_state.md R27, R28); its arrays are unspecified there and empty here (log entry 9). -/
def Flt.reset : Flt :=
  { allocated := false, n := 0, a := [], b := [], p := 0, xb := [], yb := [], valid := false, demod := .none,
    fw := 0, phase := 0, capLen := 0, capRem := 0, cap := [] }

/-- The derived decoder registers after reset (10_state.md R29). -/
def DecDerived.reset (P : Params := .plcphy) : DecDerived :=
  { spsNum := 0, thr := P.num.ofInt 0, off := 0, dmode := .none, dfw := 0, preset := 0, capn := 0 }

/-- A decoder with a filter after reset (10_state.md R25, R27, R29, R40). -/
def DecCore.reset (d : DecUnit) (P : Params := .plcphy) : DecCore :=
  { plug := Plug.reset (.dec d), der := DecDerived.reset P, flt := Flt.reset, dout := [] }

/-- The OOK decoder registers after reset (10_state.md R30). -/
def OokRegs.reset : OokRegs :=
  { n75 := 0, bpd := 0, dpf := 0, phase := .search, run := 0, posMag := 0, datum := 0, bitcnt := 0, datacnt := 0 }

/-- The PWM decoder registers after reset (10_state.md R31). -/
def PwmRegs.reset : PwmRegs := { confirm := 0, w := 0, wo := 0 }

/-- The Morse decoder registers after reset (10_state.md R32). -/
def MorseRegs.reset : MorseRegs :=
  { tDot := 0, tDash := 0, tChar := 0, tWord := 0, w := 0, wo := 0, codeLen := 0, codeBits := 0, hadChar := false }

/-- The wave encoder after reset (10_state.md R35). -/
def EncWave.reset : EncWave :=
  { plug := Plug.reset (.enc .wave), stype := 0, efw := 0, rng := 0, lo := 0, amp := 0, lvl0 := 0, k := 0,
    swFw := [], swLen := [], swLut := [], phase := 0, sweepIter := 0, sweepN := 0 }

/-- The playback encoder after reset (10_state.md R36). -/
def EncWav.reset : EncWav :=
  { plug := Plug.reset (.enc .wav), pbFormat := 0, pbChannels := 0, pbBits := 0, pbBytes := 0, pbCount := 0, lvl0 := 0,
    rep := false, pbIdx := 0, pbDone := false }

/-- A sequenced encoder after reset (10_state.md R34). -/
def EncSeq.reset (e : EncUnit) : EncSeq :=
  { plug := Plug.reset (.enc e), spsNum := 0, efw := 0, amp := 0, lvl0 := 0, segs := [], segIdx := 0, acc := 0,
    curOn := false, done := false, phase := 0 }

/-- The TX scheduler after reset (10_state.md R37). -/
def Txs.reset : Txs :=
  { state := .idle, phase := .check, enc := none, n := 0, fillIdx := 0, inflight := none, stopReq := false,
    forced := false, cycles := 0, dueNs := 0, dueRem := 0 }

/-- The RX scheduler after reset (10_state.md R38). -/
def Rxs.reset : Rxs :=
  { state := .idle, phase := .check, dec := none, n := 0, wrIdx := 0, rdIdx := 0, pending := 0, armedBuf := none,
    stopReq := false, forced := false, captured := 0, timeouts := 0 }

/-- A pool buffer after reset: its scheduler's, and no sample written (20_memory.md R63; 10_state.md R43). -/
def PoolBuf.reset : PoolBuf := { owner := .sched, samples := [] }

/-- A machine with parameters `P` right after reset (70_reset_and_hazards.md R340, 10_state.md R43). The level inputs are
low and nothing waits on a port (log entries 2, 25). -/
def State.resetWith (P : Params) : State :=
  { halted := false, fatalCode := 0, flt := Flt.reset,
    decOok := { core := DecCore.reset .ook P, ook := OokRegs.reset },
    decPwm := { core := DecCore.reset .pwm P, pwm := PwmRegs.reset },
    decMorse := { core := DecCore.reset .morse P, morse := MorseRegs.reset },
    decRaw := { plug := Plug.reset (.dec .raw), dout := [] },
    encWave := EncWave.reset, encWav := EncWav.reset,
    encOok := EncSeq.reset .ook, encPwm := EncSeq.reset .pwm, encMorse := EncSeq.reset .morse,
    txs := Txs.reset, rxs := Rxs.reset,
    txPool := List.replicate P.txPool PoolBuf.reset, txFilled := List.replicate P.txPool false,
    rxPool := List.replicate P.rxPool PoolBuf.reset,
    pbm := [], txQueue := [], rxQueue := [], stopWait := none, txBusy := false, rxBusy := false,
    cmdIn := [], rsp := [], evIn := [], evOut := [], txHas := none, rxHas := none, txGrant := none, rxGrant := none, line := [],
    agenda := [], tick := 0 }

/-- The machine right after reset (70_reset_and_hazards.md R340, 10_state.md R43). -/
def State.reset : State := State.resetWith .plcphy

end Sys2Proof.Machine
end

