-- ==== Sys2Proof/Machine/Codes.lean ====
section
/-! DEFINITION. The numbers of the codes PLCPHY answers with: unit numbers (30_encoding.md R92), status codes (R96),
message identifiers (60_exceptions.md R303), fatal codes (R305), and the encodings of state registers in the status
words (30_encoding.md R95; 10_state.md R25, R37, R38). -/

namespace Sys2Proof.Machine

/-- The plugin unit with this number: 1..4 and 8..12 (30_encoding.md R92). -/
def pluginUnit? (n : Nat) : Option PluginUnit :=
  match n with
  | 1 => some (.dec .ook)
  | 2 => some (.dec .pwm)
  | 3 => some (.dec .morse)
  | 4 => some (.dec .raw)
  | 8 => some (.enc .wave)
  | 9 => some (.enc .wav)
  | 10 => some (.enc .ook)
  | 11 => some (.enc .pwm)
  | 12 => some (.enc .morse)
  | _ => none

/-- The number of a decoder unit (30_encoding.md R92). -/
def decNumber : DecUnit → BitVec 8
  | .ook => 1
  | .pwm => 2
  | .morse => 3
  | .raw => 4

/-- The number of an encoder unit (30_encoding.md R92). -/
def encNumber : EncUnit → BitVec 8
  | .wave => 8
  | .wav => 9
  | .ook => 10
  | .pwm => 11
  | .morse => 12

/-- The status codes (30_encoding.md R96). -/
inductive Status where
  | ok | badCommand | badState | busy | unknownSetting | badType | outOfRange | config | notReady | abi | stopForced
  | halted
deriving DecidableEq, Repr

/-- The number of a status code (30_encoding.md R96). -/
def Status.code : Status → BitVec 8
  | .ok => 0
  | .badCommand => 1
  | .badState => 2
  | .busy => 3
  | .unknownSetting => 4
  | .badType => 5
  | .outOfRange => 6
  | .config => 7
  | .notReady => 8
  | .abi => 9
  | .stopForced => 10
  | .halted => 11

/-- The message identifiers of a configuration error (60_exceptions.md R303); identifier 0 means no message. -/
inductive Msg where
  | settingRejected | symbolTooShort | symbolTooLong | resyncUnsupported | playbackFormat | sweepInvalid
deriving DecidableEq, Repr

/-- The number of a message (60_exceptions.md R303). -/
def Msg.code : Msg → BitVec 8
  | .settingRejected => 1
  | .symbolTooShort => 2
  | .symbolTooLong => 3
  | .resyncUnsupported => 4
  | .playbackFormat => 5
  | .sweepInvalid => 6

/-- The fatal errors (60_exceptions.md R305). -/
inductive FatalCode where
  | filterOrder | chunkLen | count | index | ownership
deriving DecidableEq, Repr

/-- The number of a fatal error (60_exceptions.md R305). -/
def FatalCode.code : FatalCode → BitVec 8
  | .filterOrder => 1
  | .chunkLen => 2
  | .count => 3
  | .index => 4
  | .ownership => 5

/-- The value of `lc` (10_state.md R25). -/
def Lc.code : Lc → BitVec 8
  | .absent => 0
  | .idle => 1
  | .config => 2
  | .active => 3

/-- The value of `bound` (10_state.md R25). -/
def Bound.code : Bound → BitVec 8
  | .unbound => 0
  | .tx => 1
  | .rx => 2

/-- The value of TXS `state` (10_state.md R37). -/
def TxState.code : TxState → BitVec 8
  | .idle => 0
  | .preloading => 1
  | .armed => 2
  | .running => 3
  | .stopping => 4

/-- The value of TXS `phase` (10_state.md R37). -/
def TxPhase.code : TxPhase → BitVec 8
  | .check => 0
  | .fill => 1
  | .pace => 2
  | .wait => 3
  | .hand => 4

/-- The value of RXS `state` (10_state.md R38). -/
def RxState.code : RxState → BitVec 8
  | .idle => 0
  | .armed => 2
  | .running => 3
  | .stopping => 4

/-- The value of RXS `phase` (10_state.md R38). -/
def RxPhase.code : RxPhase → BitVec 8
  | .check => 0
  | .trigger => 1
  | .wait => 3
  | .dispatch => 4

/-- The mode a demodulator number selects (10_state.md R27); 3 and above select none. -/
def demod? (n : Nat) : Option Demod :=
  match n with
  | 0 => some .none
  | 1 => some .abs
  | 2 => some .cos
  | _ => Option.none

end Sys2Proof.Machine
end

