-- ==== Sys2Proof/Machine/Operands.lean ====
section
/-! DEFINITION. The operand forms: setting values on the wire (30_encoding.md R97, R98), legal values (10_state.md R22),
the settings register file (R22, R23), setting records (30_encoding.md R99), byte strings and the status word (R94, R96). -/

namespace Sys2Proof.Machine

/-! Setting values on the wire. -/

/-- A word that is the zero-extension of a value of `w` bits (30_encoding.md R98). -/
def isZext (w : Nat) (x : Word) : Bool := decide (x.toNat < 2 ^ w)

/-- A word that is the sign-extension of a value of `w` bits (30_encoding.md R98). -/
def isSext (w : Nat) (x : Word) : Bool := decide (x = (x.setWidth w).signExtend 32)

/-- Two words as a 64-bit value, the least significant word first (30_encoding.md R94). -/
def doubleWord (lo hi : Word) : BitVec 64 := hi ++ lo

/-- The value a `SET_SETTING` sends, where it is well formed for its tag (30_encoding.md R98): a bool word is 0 or 1, a
one-word integer is the extension of a value of its width, a string has at most `STR_MAX` bytes. -/
def settingValue? (v : SettingArg) (P : Params := .plcphy) : Option SetVal :=
  let w0 := v.value.getD 0 0
  let w1 := v.value.getD 1 0
  match v.tag.toNat with
  | 0 => if w0.toNat ≤ 1 then some (.bool (decide (w0.toNat = 1))) else none
  | 1 => if isSext 8 w0 then some (.i8 (w0.setWidth 8)) else none
  | 2 => if isZext 8 w0 then some (.u8 (w0.setWidth 8)) else none
  | 3 => if isSext 16 w0 then some (.i16 (w0.setWidth 16)) else none
  | 4 => if isZext 16 w0 then some (.u16 (w0.setWidth 16)) else none
  | 5 => some (.i32 w0)
  | 6 => some (.u32 w0)
  | 7 => some (.i64 (doubleWord w0 w1))
  | 8 => some (.u64 (doubleWord w0 w1))
  | 9 => some (.float w0)
  | 10 => some (.double (doubleWord w0 w1))
  | 11 => if w0.toNat ≤ P.strMax then some (.string (unpackBytes w0.toNat (v.value.drop 1))) else none
  | 12 => some (.enum w0)
  | 13 => some (.callback (doubleWord w0 w1))
  | _ => none

/-- The legal values of a setting, of its own tag (10_state.md R22, R23). -/
def SettingDef.legal (d : SettingDef) (x : SetVal) (P : Params := .plcphy) : Bool :=
  match x with
  | .bool _ => true
  | .string bs => decide (bs.length ≤ P.strMax)
  | .enum v => decide (v.toNat < d.captions.length)
  | v => decide (d.lo ≤ v.num) && decide (v.num ≤ d.hi)

/-! The settings register file (10_state.md R22). -/

/-- `unit.setting[id]`. -/
def Plug.setting? (p : Plug) (id : Nat) : Option SetVal := p.settings.lookup id

/-- `unit.setting[id]` read as a number. A rule reads only settings the unit has. -/
def Plug.num (p : Plug) (id : Nat) : Nat :=
  match p.setting? id with
  | some v => v.num
  | none => 0

/-- `unit.setting[id]` read as bytes. -/
def Plug.str (p : Plug) (id : Nat) : List Byte :=
  match p.setting? id with
  | some v => v.bytes
  | none => []

/-- `unit.setting[id] <- v`: the one register changes. -/
def Plug.setSetting (p : Plug) (id : Nat) (v : SetVal) : Plug :=
  { p with settings := p.settings.map (fun e => if e.1 = id then (e.1, v) else e) }

/-- The defaults `CREATE` loads (41_lifecycle_settings.md R143), the same for all parameters. -/
def defaultSettings (u : PluginUnit) : List (Nat × SetVal) :=
  (settingTable u).map (fun d => (d.id, d.default))

/-! Response words. -/

/-- A byte string: its length word, then its bytes (30_encoding.md R94). -/
def stringWords (bs : List Byte) : List Word := countWord bs.length :: packBytes bs

/-- The ASCII bytes of a name (30_encoding.md R99). DESIGN CHOICE (log entry 34): of a character of a preset's name that is
no byte, the low 8 bits. -/
def asciiBytes (s : String) : List Byte := s.toList.map (fun c => BitVec.ofNat 8 c.toNat)

/-- A 64-bit value as two words, the least significant first (30_encoding.md R94). -/
def wordsOf64 (v : BitVec 64) : List Word := [v.extractLsb' 0 32, v.extractLsb' 32 32]

/-- The words of a setting value (30_encoding.md R94, R98). -/
def SetVal.words : SetVal → List Word
  | .bool v => [if v then 1 else 0]
  | .i8 v => [v.signExtend 32]
  | .u8 v => [v.setWidth 32]
  | .i16 v => [v.signExtend 32]
  | .u16 v => [v.setWidth 32]
  | .i32 v => [v]
  | .u32 v => [v]
  | .i64 v => wordsOf64 v
  | .u64 v => wordsOf64 v
  | .float v => [v]
  | .double v => wordsOf64 v
  | .string bs => stringWords bs
  | .enum v => [v]
  | .callback v => wordsOf64 v

/-- A tag whose settings have a numeric range: the integer tags (30_encoding.md R99). -/
def hasRange (tag : Nat) : Bool := decide (1 ≤ tag) && decide (tag ≤ 8)

/-- A setting definition record (30_encoding.md R99). DESIGN CHOICE (log entry 34): of a maximum (`CAP_MAX`, setting 10) or a
number of captions (`FILTER_PRESETS`, setting 6) that one word cannot hold, the record has the low 32 bits. -/
def settingRecord (d : SettingDef) : List Word :=
  let t := d.default.tag
  let ranged := hasRange t
  let captioned := t == 12
  let flags : BitVec 8 := (if ranged then 1 else 0) ||| (if captioned then 2 else 0)
  fieldsWord flags (BitVec.ofNat 8 t) (BitVec.ofNat 16 d.id) :: stringWords (asciiBytes d.name)
    ++ d.default.words
    ++ (if ranged then [countWord d.lo, countWord d.hi] else [])
    ++ (if captioned then countWord d.captions.length :: d.captions.flatMap (fun c => stringWords (asciiBytes c))
        else [])

/-- The response of `GET_ACCEPTED_SETTINGS` (41_lifecycle_settings.md R144). -/
def acceptedSettings (u : PluginUnit) (P : Params := .plcphy) : List Word :=
  countWord (settingTable u P).length :: (settingTable u P).flatMap settingRecord

/-- The field `rlen` of a status word (30_encoding.md R96); a count that 16 bits cannot hold leaves it free
(log entry 4). -/
def rlenField (n : Nat) : BitVec 16 := if n < 2 ^ 16 then BitVec.ofNat 16 n else Config.rlenOverflow n

/-- The status word (30_encoding.md R96). -/
def statusWord (st : Status) (detail : BitVec 8) (rlen : Nat) : Word := rlenField rlen ++ detail ++ st.code

/-- A buffer number in a status word, 0xFF for NONE (30_encoding.md R95). DESIGN CHOICE (log entry 32): a number that 8
bits cannot hold keeps its low 8 bits. -/
def noneByte (x : Option Nat) : BitVec 8 :=
  match x with
  | some j => BitVec.ofNat 8 j
  | none => 0xFF

end Sys2Proof.Machine
end

