-- ==== Sys2Proof/Machine/Flags.lean ====
section
/-! DEFINITION. The flags and status registers (10_state.md R25, R26): what each refusal and each settings command
writes of them (41_lifecycle_settings.md R142 to R148; 60_exceptions.md R301, R302), the status words that show them
(30_encoding.md R95) and the busy condition (R142 step 3). PLCPHY has no arithmetic condition codes (R26). -/

namespace Sys2Proof.Machine

/-- A refusal from step 3 of R142 on writes `err_status` and nothing else. -/
def Plug.noteRefusal (p : Plug) (st : Status) : Plug := { p with errStatus := st.code }

/-- A refused `SET_SETTING` (41_lifecycle_settings.md R145). -/
def Plug.noteSettingRejected (p : Plug) (st : Status) : Plug :=
  { p with txnError := true, errStatus := st.code, errMsg := Msg.code .settingRejected }

/-- A configuration error at `END_SETTINGS` (41_lifecycle_settings.md R147; 60_exceptions.md R302). -/
def Plug.noteConfigError (p : Plug) (m : Msg) : Plug :=
  { p with ready := false, errMsg := m.code, errStatus := Status.code .config }

/-- A successful `END_SETTINGS` (41_lifecycle_settings.md R147). -/
def Plug.noteConfigOk (p : Plug) : Plug := { p with ready := true, errMsg := 0 }

/-- `BEGIN_SETTINGS` (41_lifecycle_settings.md R146). -/
def Plug.beginBracket (p : Plug) : Plug := { p with txnError := false, lc := .config }

/-- The registers `CREATE` leaves (41_lifecycle_settings.md R143). -/
def Plug.created (u : PluginUnit) : Plug :=
  { lc := .idle, ready := false, txnError := false, errStatus := 0, errMsg := 0, bound := .unbound,
    settings := defaultSettings u }

/-- The registers `RELEASE` leaves (41_lifecycle_settings.md R148); what it calls unspecified stays as it is
(log entry 11). -/
def Plug.released (p : Plug) : Plug := { p with bound := .unbound, ready := false, lc := .absent }

/-- A bit in a status word. -/
def flagBit (b : Bool) : BitVec 1 := if b then 1 else 0

/-- The word of `GET_STATUS` (30_encoding.md R95, 41_lifecycle_settings.md R149). -/
def Plug.statusBits (p : Plug) : Word :=
  (0 : BitVec 8) ++ p.errMsg ++ p.errStatus ++ (0 : BitVec 2) ++ p.bound.code.setWidth 2 ++ flagBit p.txnError
    ++ flagBit p.ready ++ p.lc.code.setWidth 2

/-- The unit is busy: it is bound to a scheduler whose `state` is not IDLE (41_lifecycle_settings.md R142). -/
def State.busy (s : State) (u : PluginUnit) : Bool :=
  match (s.plug u).bound with
  | .unbound => false
  | .tx => decide (s.txs.state ≠ .idle)
  | .rx => decide (s.rxs.state ≠ .idle)

/-- The first word of `TX_STATUS` (30_encoding.md R95). Its buffer fields have 8 bits: DESIGN CHOICE (log entry 32), a
number they cannot hold keeps its low 8 bits. -/
def Txs.statusBits (t : Txs) : Word :=
  (match t.enc with | some e => encNumber e | none => (0xFF : BitVec 8)) ++ BitVec.ofNat 8 t.fillIdx
    ++ noneByte t.inflight ++ flagBit t.forced ++ flagBit t.stopReq ++ t.phase.code.setWidth 3
    ++ t.state.code.setWidth 3

/-- The words of `TX_STATUS` (30_encoding.md R95, 44_scheduler.md R277). -/
def Txs.statusWords (t : Txs) : List Word := t.statusBits :: wordsOf64 t.cycles

/-- The first word of `RX_STATUS` (30_encoding.md R95). Its buffer fields have 8 bits: DESIGN CHOICE (log entry 32), a
number they cannot hold keeps its low 8 bits. -/
def Rxs.statusBits (r : Rxs) : Word :=
  (match r.dec with | some d => decNumber d | none => (0xFF : BitVec 8)) ++ BitVec.ofNat 8 r.wrIdx
    ++ noneByte r.armedBuf ++ flagBit r.forced ++ flagBit r.stopReq ++ r.phase.code.setWidth 3
    ++ r.state.code.setWidth 3

/-- The words of `RX_STATUS` (30_encoding.md R95, 44_scheduler.md R291). DESIGN CHOICE (log entry 32): `pending` and
`rd_idx` keep their low 8 bits where 8 bits cannot hold them. -/
def Rxs.statusWords (r : Rxs) : List Word :=
  [r.statusBits, (0 : BitVec 16) ++ BitVec.ofNat 8 r.pending ++ BitVec.ofNat 8 r.rdIdx]
    ++ wordsOf64 r.captured ++ wordsOf64 r.timeouts

/-- The word of `SYS_STATUS` (60_exceptions.md R308): version 1.0. -/
def State.sysStatusBits (s : State) : Word :=
  (0 : BitVec 8) ++ (1 : BitVec 8) ++ s.fatalCode ++ (0 : BitVec 7) ++ flagBit s.halted

end Sys2Proof.Machine
end

