-- ==== Sys2Proof/Machine/Ops.lean ====
section
/-! DEFINITION. The named operations over memory and state: sparse element memories (20_memory.md R60, R61), pool buffers
with their ownership (R62, R63), the response of a command (30_encoding.md R96), `raise Fatal` and the reset input that
alone undoes it (60_exceptions.md R306, R309; 70_reset_and_hazards.md R340), and the order of checks every command
follows (41_lifecycle_settings.md R142; 60_exceptions.md R307). -/

namespace Sys2Proof.Machine

/-! Element memories. -/

/-- A memory of elements by index, in one canonical form: indices strictly rising, an element nobody has written not
listed (log entry 10). `Cells Byte` is a list of `Host.Cell`. -/
abbrev Cells (α : Type) := List (Nat × α)

/-- The canonical form. -/
abbrev Memory.wf {α : Type} (m : Cells α) : Prop := m.Pairwise (fun x y => x.1 < y.1)

/-- Read one element; an unlisted one holds no value. -/
def Memory.read {α : Type} : Cells α → Nat → Option α
  | [], _ => none
  | (k, v) :: m, a => if k = a then some v else Memory.read m a

/-- Write one element, keeping the canonical form. -/
def Memory.write {α : Type} : Cells α → Nat → α → Cells α
  | [], a, x => [(a, x)]
  | (k, v) :: m, a, x =>
    if a < k then (a, x) :: (k, v) :: m
    else if a = k then (a, x) :: m
    else (k, v) :: Memory.write m a x

/-- Write consecutive elements from index `a` on. -/
def Memory.writeFrom {α : Type} (m : Cells α) (a : Nat) : List α → Cells α
  | [] => m
  | x :: xs => Memory.writeFrom (Memory.write m a x) (a + 1) xs

/-! Pool buffers. -/

/-- `BufRead(pool, j, i)` by agent `who` in a session of `n` samples (20_memory.md R62), the buffer number checked first,
then the owner, then the index (log entry 7); `none` is a sample nobody has written. -/
def bufRead (pool : List PoolBuf) (n : Nat) (who : Owner) (j i : Nat) : Except FatalCode (Option Sample) :=
  match pool[j]? with
  | none => .error .index
  | some b =>
    if b.owner = who then
      if i < n then .ok (Memory.read b.samples i) else .error .index
    else .error .ownership

/-- `BufWrite(pool, j, i, v)` by agent `who` in a session of `n` samples (20_memory.md R62), checked like `BufRead`. -/
def bufWrite (pool : List PoolBuf) (n : Nat) (who : Owner) (j i : Nat) (v : Sample) : Except FatalCode (List PoolBuf) :=
  match pool[j]? with
  | none => .error .index
  | some b =>
    if b.owner = who then
      if i < n then .ok (pool.set j { b with samples := Memory.write b.samples i v }) else .error .index
    else .error .ownership

/-- `BufWrite` of consecutive samples from index `i` on (44_scheduler.md R269). -/
def bufWriteAll (pool : List PoolBuf) (n : Nat) (who : Owner) (j i : Nat) : List Sample → Except FatalCode (List PoolBuf)
  | [] => .ok pool
  | v :: vs =>
    match bufWrite pool n who j i v with
    | .error c => .error c
    | .ok pool' => bufWriteAll pool' n who j (i + 1) vs

/-- `BufRead` of the `k` samples from index `i` on (44_scheduler.md R286); a sample nobody has written has a free value
(93_implementation_defined.md U3; log entry 10). -/
def bufReadAll (tick : Nat) (pool : List PoolBuf) (n : Nat) (who : Owner) (j : Nat) :
    Nat → Nat → Except FatalCode (List Sample)
  | 0, _ => .ok []
  | k + 1, i =>
    match bufRead pool n who j i with
    | .error c => .error c
    | .ok v =>
      match bufReadAll tick pool n who j k (i + 1) with
      | .error c => .error c
      | .ok vs => .ok (v.getD (Config.unwrittenSample tick j i) :: vs)

/-- `owner[j] <- o` (20_memory.md R63). -/
def setOwner (pool : List PoolBuf) (j : Nat) (o : Owner) : List PoolBuf :=
  pool.modify j (fun b => { b with owner := o })

/-- For every buffer of the pool: `owner <- SCHED` (44_scheduler.md R267, R274, R281, R288, R290). -/
def reclaimAll (pool : List PoolBuf) : List PoolBuf := pool.map (fun b => { b with owner := .sched })

/-- A byte of the playback memory; one nobody has written has a free value (20_memory.md R66; log entry 10). -/
def pbmByte (pbm : List Host.Cell) (i : Nat) : Byte := (Memory.read pbm i).getD (Config.unwrittenByte i)

/-! The event port. -/

/-- A word of the event port (30_encoding.md R102). `buf` has 8 bits: DESIGN CHOICE (log entry 32), of a buffer number
they cannot hold, in a pool of more than 255 buffers, the word keeps the low 8 bits. -/
def eventWord (code : BitVec 8) (buf : Nat) (count : BitVec 16) : Word := fieldsWord code (BitVec.ofNat 8 buf) count

/-- TRANSPORT's loan of a buffer, but for buffer `j` (70_reset_and_hazards.md R354 (1)). -/
def endLoan (j : Byte) (has : Option Byte) : Option Byte := if has = some j then none else has

/-- Emit `REQ_TX_SEND` (44_scheduler.md R273): from here on TRANSPORT has the buffer (20_memory.md R63;
70_reset_and_hazards.md R354). -/
def State.emitTxSend (s : State) (buf : Nat) (count : BitVec 16) : State :=
  { s with evOut := s.evOut ++ [eventWord 0x90 buf count], txHas := some (BitVec.ofNat 8 buf) }

/-- Emit `REQ_RX_CAPTURE` (44_scheduler.md R285): from here on TRANSPORT has the buffer (20_memory.md R63;
70_reset_and_hazards.md R354). -/
def State.emitRxCapture (s : State) (buf : Nat) (count : BitVec 16) : State :=
  { s with evOut := s.evOut ++ [eventWord 0x91 buf count], rxHas := some (BitVec.ofNat 8 buf) }

/-- Emit `REQ_RX_ABORT` with count 0 (44_scheduler.md R287, R288, R290): TRANSPORT no longer has the buffer
(70_reset_and_hazards.md R354). -/
def State.emitRxAbort (s : State) (buf : Nat) : State :=
  { s with evOut := s.evOut ++ [eventWord 0x92 buf 0], rxHas := endLoan (BitVec.ofNat 8 buf) s.rxHas }

/-- `REQ_RX_ABORT` for the armed buffer, if one is armed (44_scheduler.md R287, R288, R290). -/
def State.abortArmed (s : State) : State :=
  match s.rxs.armedBuf with
  | some j => s.emitRxAbort j
  | none => s

/-! Responses, the halt, the reset. -/

/-- Answer the transaction: the status word, then the response words (30_encoding.md R90, R96). -/
def State.respond (s : State) (st : Status) (detail : BitVec 8) (words : List Word) : State :=
  { s with rsp := statusWord st detail words.length :: words }

/-- `raise Fatal(code)`, the trap entry of PLCPHY (10_state.md R21, 60_exceptions.md R306): the first code stays. -/
def State.raiseFatal (s : State) (c : FatalCode) : State :=
  { s with fatalCode := if s.halted then s.fatalCode else c.code, halted := true }

/-- The reset input `rst` (70_reset_and_hazards.md R340, R342), the only way out of a halt (60_exceptions.md R309): all
of PLCPHY at its reset value, TRANSPORT without a buffer. What HOST and TRANSPORT have yet to send, the level inputs and
the moves to come are outside PLCPHY and stay (log entry 21). -/
def State.resetInput (s : State) (P : Params := .plcphy) : State :=
  { State.resetWith P with txBusy := s.txBusy, rxBusy := s.rxBusy, cmdIn := s.cmdIn, evIn := s.evIn, line := s.line,
                           agenda := s.agenda, tick := s.tick }

/-! The order of checks of a command. -/

/-- What a command's own rule ends in: a state with the answer to give; a refusal, which changes no more than
`err_status`; or a fatal error. -/
inductive CmdResult where
  | done (s : State) (st : Status) (detail : BitVec 8) (words : List Word)
  | refuse (st : Status) (detail : BitVec 8)
  | fatal (c : FatalCode)

/-- A command that succeeds, with its response words. -/
def CmdResult.succeed (s : State) (words : List Word) : CmdResult := .done s .ok 0 words

/-- Answer `E_HALTED` with the fatal code (60_exceptions.md R307). -/
def State.answerHalted (s : State) : State := s.respond .halted s.fatalCode []

/-- A fatal error raised by a command: the state before it, the latch, and the answer `E_HALTED` (60_exceptions.md R306). -/
def State.failFatal (s : State) (c : FatalCode) : State := (s.raiseFatal c).respond .halted c.code []

/-- A command on the filter, a scheduler or the system: halted first, then the command's own rule
(60_exceptions.md R307, R313). -/
def blockCommand (s : State) (body : CmdResult) : Host.Outcome State Fault Refusal :=
  if s.halted then .next s.answerHalted
  else
    match body with
    | .done t st detail words => .next (t.respond st detail words)
    | .refuse st detail => .next (s.respond st detail [])
    | .fatal c => .next (s.failFatal c)

/-- A refusal by a plugin unit, which also writes its `err_status` (41_lifecycle_settings.md R142). -/
def State.refusePlugin (s : State) (u : PluginUnit) (st : Status) (detail : BitVec 8) : State :=
  (s.setPlug u ((s.plug u).noteRefusal st)).respond st detail []

/-- A command on a plugin unit (41_lifecycle_settings.md R142): halted; then busy, but for the four commands that are
`exempt`; then the table of R141, `legal` in the unit's `lc`; then the command's own rule. -/
def pluginCommand (u : PluginUnit) (exempt : Bool) (legal : Lc → Bool) (s : State) (body : CmdResult) :
    Host.Outcome State Fault Refusal :=
  if s.halted then .next s.answerHalted
  else if !exempt && s.busy u then .next (s.refusePlugin u .busy 0)
  else if !legal (s.plug u).lc then .next (s.refusePlugin u .badState (s.plug u).lc.code)
  else
    match body with
    | .done t st detail words => .next (t.respond st detail words)
    | .refuse st detail => .next (s.refusePlugin u st detail)
    | .fatal c => .next (s.failFatal c)

end Sys2Proof.Machine
end

