-- ==== Sys2Proof/Machine/Filter.lean ====
section
/-! DEFINITION. The filter and demodulator primitive FLT (40_filter.md): the operations `flt_create`, `flt_set_demod`,
`flt_set_capture`, `flt_process_chunk`, `flt_destroy` that the decoders share, and the seven commands of unit 0. -/

namespace Sys2Proof.Machine

/-! The primitive. -/

/-- The filter order `P = max(NA, NB) - 1` (40_filter.md R121). -/
def filterOrder (a b : List REAL) : Nat := max a.length b.length - 1

/-- `flt_create(f, N, a, b)` (40_filter.md R121): the order must not exceed the chunk size. -/
def fltCreate (n : BitVec 16) (a b : List REAL) (P : Params := .plcphy) : Except FatalCode Flt :=
  if filterOrder a b ≤ n.toNat then
    .ok { allocated := true, n := n, a := a, b := b, p := filterOrder a b,
          xb := List.replicate (filterOrder a b + n.toNat) (P.num.ofInt 0),
          yb := List.replicate (filterOrder a b + n.toNat) (P.num.ofInt 0),
          valid := false, demod := .none, fw := 0, phase := 0, capLen := 0, capRem := 0, cap := [] }
  else .error .filterOrder

/-- `flt_set_demod(f, mode, fw)` (40_filter.md R122). -/
def Flt.setDemod (f : Flt) (mode : Demod) (fw : BitVec 32) : Flt := { f with demod := mode, fw := fw, phase := 0 }

/-- `flt_set_capture(f, count)` (40_filter.md R123); values captured before are undefined from here on. -/
def Flt.setCapture (f : Flt) (count : Nat) : Flt := { f with capLen := count, capRem := count, cap := [] }

/-- `flt_destroy(f)` (40_filter.md R132); the arrays, unspecified from here on, stay as they are (log entry 11). -/
def Flt.destroy (f : Flt) : Flt := { f with allocated := false, valid := false }

/-- Step (a), the history shift (40_filter.md R125). -/
def shiftHistory (p n : Nat) (buf : List REAL) : List REAL := (buf.drop n).take p ++ buf.drop p

/-- One demodulated sample (40_filter.md R126): the whole container counts (R133). -/
def demodSample (mode : Demod) (phase : BitVec 32) (offset raw : Sample) (P : Params := .plcphy) : REAL :=
  let d : Int := (P.contained raw : Int) - (offset.toNat : Int)
  match mode with
  | .none => P.num.ofInt d
  | .abs => P.num.ofInt d.natAbs
  | .cos => P.num.mul (P.num.ofInt d) (P.num.cosw phase)

/-- Step (b), demodulation of a chunk from phase `phase` (40_filter.md R126): the samples and the phase after them. -/
def demodChunk (mode : Demod) (fw : BitVec 32) (offset : Sample) (phase : BitVec 32) (raw : List Sample)
    (P : Params := .plcphy) : List REAL × BitVec 32 :=
  match raw with
  | [] => ([], phase)
  | r :: rs =>
    let rest := demodChunk mode fw offset (phase + fw) rs P
    (demodSample mode phase offset r P :: rest.1, rest.2)

/-- One sum of step (c): terms `coef[k] * sig[n - k]` for ascending `k` from `k0`, from a zero accumulator
(40_filter.md R127). -/
def tapSum (coef sig : List REAL) (n k0 : Nat) (P : Params := .plcphy) : REAL :=
  (List.range' k0 (coef.length - k0)).foldl
    (fun acc k => P.num.add acc (P.num.mul (coef.getD k 0) (sig.getD (n - k) 0))) (P.num.ofInt 0)

/-- The output at index `n` (40_filter.md R127). -/
def iirOutput (a b xb yb : List REAL) (n : Nat) (P : Params := .plcphy) : REAL :=
  P.num.div (P.num.sub (tapSum b xb n 0 P) (tapSum a yb n 1 P)) (a.getD 0 0)

/-- Step (c): `count` outputs from index `n` on, appended to the outputs before them (40_filter.md R127). -/
def iirRun (a b xb : List REAL) (count n : Nat) (yb : List REAL) (P : Params := .plcphy) : List REAL :=
  match count with
  | 0 => yb
  | count + 1 => iirRun a b xb count (n + 1) (yb ++ [iirOutput a b xb yb n P]) P

/-- `capture(f, v)` (40_filter.md R128). -/
def Flt.capture (f : Flt) (v : REAL) : Flt :=
  if 0 < f.capRem then
    { f with cap := Memory.write f.cap (f.capLen - f.capRem) v, capRem := f.capRem - 1 }
  else f

/-- `flt_process_chunk(f, raw, offset)` (40_filter.md R124). -/
def Flt.processChunk (f : Flt) (raw : List Sample) (offset : Sample) (P : Params := .plcphy) : Except FatalCode Flt :=
  if raw.length = f.n.toNat then
    let xs := demodChunk f.demod f.fw offset f.phase raw P
    let xb := (shiftHistory f.p f.n.toNat f.xb).take f.p ++ xs.1
    let yb := iirRun f.a f.b xb f.n.toNat f.p ((shiftHistory f.p f.n.toNat f.yb).take f.p) P
    let g := (yb.drop f.p).foldl Flt.capture f
    .ok { g with xb := xb, yb := yb, phase := xs.2, valid := true }
  else .error .chunkLen

/-- The current chunk of outputs, `yb[P..P+N-1]` (20_memory.md R76). -/
def Flt.output (f : Flt) : List REAL := (f.yb.drop f.p).take f.n.toNat

/-- The first `c` captured values; an entry not defined has a free value (40_filter.md R131; log entry 10). -/
def Flt.captured (f : Flt) (c : Nat) : List REAL :=
  (List.range c).map (fun k => (Memory.read f.cap k).getD (Config.undefinedCapture k))

/-- The response of `FLT_READ_CAPTURE` and `READ_CAPTURE` (40_filter.md R131, 42_decoders.md R206). -/
def Flt.captureWords (f : Flt) (m : BitVec 16) (P : Params := .plcphy) : List Word :=
  let c := min m.toNat (f.capLen - f.capRem)
  countWord c :: (f.captured c).map P.num.toBits

/-! The commands of unit 0. -/

/-- `FLT_CREATE` (40_filter.md R121); HOST writes each coefficient as its `ofBits` pattern (00_scope.md R14). -/
def execFltCreate (n : BitVec 16) (a b : List Real32) (s : State) (P : Params := .plcphy) :
    Host.Outcome State Fault Refusal :=
  blockCommand s <|
    if s.flt.allocated then .refuse .badState 0
    else if n.toNat = 0 ∨ n.toNat > P.chunkMax then .refuse .outOfRange 0
    else if a.length = 0 ∨ b.length = 0 ∨ a.length > P.orderMax + 1 ∨ b.length > P.orderMax + 1 then
      .refuse .outOfRange 0
    else if P.num.isZero (P.num.ofBits (a.getD 0 0)) then .refuse .outOfRange 0
    else
      match fltCreate n (a.map P.num.ofBits) (b.map P.num.ofBits) P with
      | .error c => .fatal c
      | .ok f => .succeed { s with flt := f } []

/-- `FLT_SET_DEMOD` (40_filter.md R122). -/
def execFltSetDemod (mode : BitVec 16) (fw : Word) (s : State) : Host.Outcome State Fault Refusal :=
  blockCommand s <|
    if !s.flt.allocated then .refuse .badState 0
    else
      match demod? mode.toNat with
      | none => .refuse .outOfRange 0
      | some d => .succeed { s with flt := s.flt.setDemod d fw } []

/-- `FLT_SET_CAPTURE` (40_filter.md R123). -/
def execFltSetCapture (count : Word) (s : State) (P : Params := .plcphy) : Host.Outcome State Fault Refusal :=
  blockCommand s <|
    if !s.flt.allocated then .refuse .badState 0
    else if count.toNat > P.capMax then .refuse .outOfRange 0
    else .succeed { s with flt := s.flt.setCapture count.toNat } []

/-- `FLT_PROCESS_CHUNK` (40_filter.md R124). -/
def execFltProcessChunk (offset : Sample) (raw : List Sample) (s : State) (P : Params := .plcphy) :
    Host.Outcome State Fault Refusal :=
  blockCommand s <|
    if !s.flt.allocated then .refuse .badState 0
    else
      match s.flt.processChunk raw offset P with
      | .error c => .fatal c
      | .ok f => .succeed { s with flt := f } []

/-- `FLT_READ_OUTPUT` (40_filter.md R130). -/
def execFltReadOutput (s : State) (P : Params := .plcphy) : Host.Outcome State Fault Refusal :=
  blockCommand s <|
    if !s.flt.allocated then .refuse .badState 0
    else if !s.flt.valid then .refuse .badState 1
    else .succeed s (countWord s.flt.n.toNat :: s.flt.output.map P.num.toBits)

/-- `FLT_READ_CAPTURE` (40_filter.md R131). -/
def execFltReadCapture (m : BitVec 16) (s : State) (P : Params := .plcphy) : Host.Outcome State Fault Refusal :=
  blockCommand s <|
    if !s.flt.allocated then .refuse .badState 0
    else .succeed s (s.flt.captureWords m P)

/-- `FLT_RELEASE` (40_filter.md R132). -/
def execFltRelease (s : State) : Host.Outcome State Fault Refusal :=
  blockCommand s <|
    if !s.flt.allocated then .refuse .badState 0
    else .succeed { s with flt := s.flt.destroy } []

end Sys2Proof.Machine
end

