-- ==== Sys2Proof/Machine/Decoders.lean ====
section
/-! DEFINITION. The decoder units 1 to 4 (42_decoders.md): their part of `END_SETTINGS`, `INITIALIZE`,
`PARSE_NEXT_SAMPLES`, `TERMINATE`, `READ_DECODED` and `READ_CAPTURE`. -/

namespace Sys2Proof.Machine

/-! Derivation at `END_SETTINGS`. -/

/-- `sps_num = sampling_rate_sps * bit_width_us` (00_scope.md R13). -/
def Plug.spsNum (p : Plug) : Nat := p.num idSamplingRate * p.num idBitWidth

/-- The two limits on a symbol's length that decoders and bit-stream encoders share (42_decoders.md R171,
43_encoders.md R219). -/
def symbolLength? (sps : Nat) : Option Msg :=
  if sps < Config.mag then some .symbolTooShort
  else if sps / Config.mag > 2 ^ 31 - 1 then some .symbolTooLong
  else none

/-- `derive_common(u)` (42_decoders.md R171). -/
def DecCore.deriveCommon (c : DecCore) (P : Params := .plcphy) : DecCore × Option Msg :=
  let p := c.plug
  match symbolLength? p.spsNum with
  | some m => ({ c with der := { c.der with spsNum := BitVec.ofNat 64 p.spsNum } }, some m)
  | none =>
    ({ c with der :=
        { spsNum := BitVec.ofNat 64 p.spsNum,
          thr := P.num.ofInt (p.num idDataHiThreshold),
          off := BitVec.ofNat 16 (p.num idDataOffset),
          dmode := (demod? (p.num idDemodMode)).getD .none,
          dfw := Num.freqWord (p.num idDemodFreq) (p.num idSamplingRate),
          preset := p.num idFilter,
          capn := BitVec.ofNat 32 (p.num idSamplesToCapture) } }, none)

/-- `derive` of DEC_OOK (42_decoders.md R173, R181). -/
def DecOok.derive (d : DecOok) (P : Params := .plcphy) : DecOok × Option Msg :=
  match d.core.deriveCommon P with
  | (c, some m) => ({ d with core := c }, some m)
  | (c, none) =>
    if c.plug.num idAutoResync = 1 then ({ d with core := c }, some .resyncUnsupported)
    else
      ({ core := c,
         ook := { d.ook with n75 := BitVec.ofNat 32 (max 1 (3 * c.der.spsNum.toNat / (4 * Config.mag))),
                             bpd := c.plug.num idBitsPerDatum,
                             dpf := BitVec.ofNat 32 (c.plug.num idDataPerFrame) } }, none)

/-- `derive` of DEC_PWM (42_decoders.md R188). -/
def DecPwm.derive (d : DecPwm) (P : Params := .plcphy) : DecPwm × Option Msg :=
  match d.core.deriveCommon P with
  | (c, some m) => ({ d with core := c }, some m)
  | (c, none) =>
    ({ core := c, pwm := { d.pwm with confirm := BitVec.ofNat 64 (max 1 (c.der.spsNum.toNat / Config.mag)) } }, none)

/-- A Morse threshold: half of `units` symbol periods, at least one sample (42_decoders.md R193). DESIGN CHOICE (log entry
35): one that 64 bits cannot hold, for `MORSE_UNITS` of about 2^34 or more, is kept modulo 2^64. -/
def morseThreshold (units sps : Nat) : BitVec 64 := BitVec.ofNat 64 (max 1 (units * sps / (2 * Config.mag)))

/-- `derive` of DEC_MORSE (42_decoders.md R193). -/
def DecMorse.derive (d : DecMorse) (P : Params := .plcphy) : DecMorse × Option Msg :=
  match d.core.deriveCommon P with
  | (c, some m) => ({ d with core := c }, some m)
  | (c, none) =>
    let sps := c.der.spsNum.toNat
    let u := P.morseUnits
    ({ core := c,
       morse := { d.morse with tDot := morseThreshold u.dot sps,
                               tDash := morseThreshold (u.dot + u.dash) sps,
                               tChar := morseThreshold (u.gapSym + u.gapChar) sps,
                               tWord := morseThreshold (u.gapChar + u.gapWord) sps } }, none)

/-! `INITIALIZE`. -/

/-- The coefficients a preset index selects (42_decoders.md R172). -/
def presetAt (i : Nat) (P : Params := .plcphy) : FilterPreset :=
  P.filterPresets.getD i ⟨"none", [P.num.ofInt 1], [P.num.ofInt 1]⟩

/-- `dec_init_common(u, N)` after its range check (42_decoders.md R175), and the entry into ACTIVE. -/
def DecCore.start (c : DecCore) (n : BitVec 16) (P : Params := .plcphy) : Except FatalCode DecCore :=
  match fltCreate n (presetAt c.der.preset P).a (presetAt c.der.preset P).b P with
  | .error e => .error e
  | .ok f =>
    .ok { c with flt := (f.setDemod c.der.dmode c.der.dfw).setCapture c.der.capn.toNat, dout := [],
                 plug := { c.plug with lc := .active } }

/-- The working registers of the OOK decoder at the start of a session (42_decoders.md R174). -/
def OokRegs.start (r : OokRegs) : OokRegs :=
  { r with phase := .search, run := 0, posMag := 0, datum := 0, bitcnt := 0, datacnt := 0 }

/-- The working registers of the PWM decoder at the start of a session (42_decoders.md R189). -/
def PwmRegs.start (r : PwmRegs) : PwmRegs := { r with w := 0, wo := 0 }

/-- The working registers of the Morse decoder at the start of a session (42_decoders.md R194). -/
def MorseRegs.start (r : MorseRegs) : MorseRegs :=
  { r with w := 0, wo := 0, codeLen := 0, codeBits := 0, hadChar := false }

/-- The range of a chunk size (42_decoders.md R175, R203). -/
def chunkSizeLegal (n : BitVec 16) (P : Params := .plcphy) :
    Bool := decide (n.toNat ≠ 0) && decide (n.toNat ≤ P.chunkMax)

/-- The body of `INITIALIZE` on a decoder (42_decoders.md R174, R189, R194, R203), for a command and for a session. -/
def initializeBody (d : DecUnit) (n : BitVec 16) (s : State) (P : Params := .plcphy) : CmdResult :=
  if !chunkSizeLegal n P then .refuse .outOfRange 0
  else
    match d with
    | .ook =>
      match s.decOok.core.start n P with
      | .error c => .fatal c
      | .ok c => .succeed { s with decOok := { core := c, ook := s.decOok.ook.start } } []
    | .pwm =>
      match s.decPwm.core.start n P with
      | .error c => .fatal c
      | .ok c => .succeed { s with decPwm := { core := c, pwm := s.decPwm.pwm.start } } []
    | .morse =>
      match s.decMorse.core.start n P with
      | .error c => .fatal c
      | .ok c => .succeed { s with decMorse := { core := c, morse := s.decMorse.morse.start } } []
    | .raw =>
      .succeed { s with decRaw := { plug := { s.decRaw.plug with lc := .active }, dout := [] } } []

/-- `INITIALIZE` on a decoder: only from IDLE and only when ready (41_lifecycle_settings.md R141). -/
def initializeCommand (d : DecUnit) (n : BitVec 16) (s : State) (P : Params := .plcphy) :
    Host.Outcome State Fault Refusal :=
  pluginCommand (.dec d) false (fun lc => decide (lc = .idle)) s <|
    if !(s.plug (.dec d)).ready then .refuse .notReady 0 else initializeBody d n s P

/-! `PARSE_NEXT_SAMPLES`. -/

/-- A run counter: it saturates at 2^64 - 1 (70_reset_and_hazards.md R357). -/
def satInc (x : BitVec 64) : BitVec 64 := if x.toNat = 2 ^ 64 - 1 then x else x + 1

/-- SEARCH over the samples `ys` that stand at index `i` and after (42_decoders.md R178, R182): the registers, and the
index where the start was confirmed or the chunk's end. -/
def OokRegs.search (thr : REAL) (sps : Nat) (outputs : List REAL) (i : Nat) (r : OokRegs)
    (P : Params := .plcphy) : OokRegs × Nat :=
  match outputs with
  | [] => (r, i)
  | y :: ys =>
    let run := if P.num.gt y thr then satInc r.run else 0
    if run.toNat = r.n75.toNat then
      ({ r with posMag := ((i : Int) + 1 - (r.n75.toNat : Int)) * (Config.mag : Int) + ((3 * sps / 2 : Nat) : Int),
                phase := .data, bitcnt := 0, datum := 0, datacnt := 0, run := 0 }, i)
    else OokRegs.search thr sps ys (i + 1) { r with run := run } P

/-- The index of the first carrier-absent sample among those at index `i` and after, or the chunk's end
(42_decoders.md R180). -/
def skipCarrier (thr : REAL) (outputs : List REAL) (i : Nat) (P : Params := .plcphy) : Nat :=
  match outputs with
  | [] => i
  | y :: ys => if P.num.gt y thr then skipCarrier thr ys (i + 1) P else i

/-- The registers after one data symbol of value `bit` (42_decoders.md R179, R182). -/
def OokRegs.sampleBit (r : OokRegs) (sps : Nat) (bit : Bool) : OokRegs :=
  { r with datum := (r.datum <<< 1) ||| (if bit then 1 else 0), bitcnt := r.bitcnt + 1, posMag := r.posMag + (sps : Int) }

/-- The loop of R182, one case a pass: the registers and the bytes emitted. A pass returns, raises `i`, or moves the
cursor on by a sample or more (R184), so `3 * N + 6` passes suffice (log entry 17). -/
def OokRegs.parse (thr : REAL) (sps : Nat) (y : List REAL) (fuel i : Nat) (r : OokRegs) (out : List Byte)
    (P : Params := .plcphy) : OokRegs × List Byte :=
  match fuel with
  | 0 => (r, out)
  | fuel + 1 =>
    match r.phase with
    | .search =>
      let (r', i') := OokRegs.search thr sps (y.drop i) i r P
      if r'.phase = .search then (r', out) else OokRegs.parse thr sps y fuel i' r' out P
    | .data =>
      let idx := r.posMag / (Config.mag : Int)
      if idx ≥ (y.length : Int) then
        ({ r with posMag := r.posMag - (y.length : Int) * (Config.mag : Int) }, out)
      else
        let r1 := r.sampleBit sps (P.num.gt (y.getD idx.toNat 0) thr)
        if r1.bitcnt = r1.bpd then
          let r2 := { r1 with datum := 0, bitcnt := 0, datacnt := r1.datacnt + 1 }
          if r2.datacnt = r2.dpf then
            OokRegs.parse thr sps y fuel (idx.toNat + 1) { r2 with phase := .waitIdle, run := 0 } (out ++ [r1.datum]) P
          else OokRegs.parse thr sps y fuel i r2 (out ++ [r1.datum]) P
        else OokRegs.parse thr sps y fuel i r1 out P
    | .waitIdle =>
      let i' := skipCarrier thr (y.drop i) i P
      if i' ≥ y.length then (r, out)
      else OokRegs.parse thr sps y fuel i' { r with phase := .search, run := 0 } out P

/-- `dec_parse` of DEC_OOK (42_decoders.md R182): the unit and the number of bytes appended to `dout`. -/
def DecOok.parse (d : DecOok) (raw : List Sample) (P : Params := .plcphy) : Except FatalCode (DecOok × Nat) :=
  match d.core.flt.processChunk raw d.core.der.off P with
  | .error c => .error c
  | .ok f =>
    let y := f.output
    let (r, out) := OokRegs.parse d.core.der.thr d.core.der.spsNum.toNat y (3 * y.length + 6) 0 d.ook [] P
    .ok ({ core := { d.core with flt := f, dout := d.core.dout ++ out }, ook := r }, out.length)

/-- One sample of the PWM decoder (42_decoders.md R190): the registers and the byte emitted, if any. -/
def PwmRegs.sample (thr : REAL) (sps : Nat) (r : PwmRegs) (y : REAL) (P : Params := .plcphy) :
    PwmRegs × List Byte :=
  if P.num.gt y thr then ({ r with w := satInc r.w, wo := 0 }, [])
  else if 0 < r.w.toNat then
    let wo := satInc r.wo
    if wo = r.confirm then
      let v := (r.w.toNat * Config.mag + sps / 2) / sps
      ({ r with w := 0, wo := 0 }, if 32 ≤ v ∧ v ≤ 255 then [BitVec.ofNat 8 v] else [])
    else ({ r with wo := wo }, [])
  else (r, [])

/-- The samples of a chunk in index order (42_decoders.md R190). -/
def PwmRegs.parse (thr : REAL) (sps : Nat) (outputs : List REAL) (r : PwmRegs) (P : Params := .plcphy) :
    PwmRegs × List Byte :=
  match outputs with
  | [] => (r, [])
  | y :: ys =>
    let (r1, b) := PwmRegs.sample thr sps r y P
    let (r2, bs) := PwmRegs.parse thr sps ys r1 P
    (r2, b ++ bs)

/-- `dec_parse` of DEC_PWM (42_decoders.md R190). -/
def DecPwm.parse (d : DecPwm) (raw : List Sample) (P : Params := .plcphy) : Except FatalCode (DecPwm × Nat) :=
  match d.core.flt.processChunk raw d.core.der.off P with
  | .error c => .error c
  | .ok f =>
    let (r, out) := PwmRegs.parse d.core.der.thr d.core.der.spsNum.toNat f.output d.pwm P
    .ok ({ core := { d.core with flt := f, dout := d.core.dout ++ out }, pwm := r }, out.length)

/-- The elements a code register holds, in order, true for a dash (10_state.md R32). -/
def codeElements (len : Nat) (bits : BitVec 7) : List Bool := (List.range len).map (fun k => bits.getLsbD k)

/-- `lookup(code_len, code_bits)` (42_decoders.md R196): '?' for a string that is in no row, or for an overflow. -/
def morseLookup (len : Nat) (bits : BitVec 7) (P : Params := .plcphy) : Byte :=
  if len = 7 then 0x3F
  else
    match P.morseTable.find? (fun r => r.code == codeElements len bits) with
    | some r => r.char
    | none => 0x3F

/-- `append(u, e)` (42_decoders.md R197). -/
def MorseRegs.append (r : MorseRegs) (e : Bool) : MorseRegs :=
  if r.codeLen < 6 then
    { r with codeBits := (r.codeBits &&& ~~~(1#7 <<< r.codeLen)) ||| (if e then 1#7 <<< r.codeLen else 0#7),
             codeLen := r.codeLen + 1 }
  else { r with codeLen := 7 }

/-- The element a run of `r.w` carrier-present samples ends in: dash, dot, or noise (42_decoders.md R197). -/
def MorseRegs.confirm (r : MorseRegs) : MorseRegs :=
  if r.w.toNat ≥ r.tDash.toNat then r.append true
  else if r.w.toNat ≥ r.tDot.toNat then r.append false
  else r

/-- A carrier-present sample (42_decoders.md R197). -/
def MorseRegs.carrier (r : MorseRegs) : MorseRegs × List Byte :=
  if r.w = 0 then
    ({ r with wo := 0, w := satInc r.w }, if r.hadChar && decide (r.wo.toNat ≥ r.tWord.toNat) then [0x20] else [])
  else ({ r with w := satInc r.w }, [])

/-- A carrier-absent sample (42_decoders.md R197). -/
def MorseRegs.silence (r : MorseRegs) (P : Params := .plcphy) : MorseRegs × List Byte :=
  let r1 := if 0 < r.w.toNat then { r.confirm with w := 0, wo := 0 } else r
  let r2 := { r1 with wo := satInc r1.wo }
  if r2.wo = r2.tChar ∧ 0 < r2.codeLen then
    ({ r2 with codeLen := 0, codeBits := 0, hadChar := true }, [morseLookup r2.codeLen r2.codeBits P])
  else (r2, [])

/-- The samples of a chunk in index order (42_decoders.md R197). -/
def MorseRegs.parse (thr : REAL) (outputs : List REAL) (r : MorseRegs) (P : Params := .plcphy) :
    MorseRegs × List Byte :=
  match outputs with
  | [] => (r, [])
  | y :: ys =>
    let (r1, b) := if P.num.gt y thr then r.carrier else r.silence P
    let (r2, bs) := MorseRegs.parse thr ys r1 P
    (r2, b ++ bs)

/-- `dec_parse` of DEC_MORSE (42_decoders.md R197). -/
def DecMorse.parse (d : DecMorse) (raw : List Sample) (P : Params := .plcphy) : Except FatalCode (DecMorse × Nat) :=
  match d.core.flt.processChunk raw d.core.der.off P with
  | .error c => .error c
  | .ok f =>
    let (r, out) := MorseRegs.parse d.core.der.thr f.output d.morse P
    .ok ({ core := { d.core with flt := f, dout := d.core.dout ++ out }, morse := r }, out.length)

/-- `dec_parse(u, chunk)` (42_decoders.md R207): the state and the number of bytes appended. The raw decoder accepts
and discards any samples (R204). -/
def decParse (d : DecUnit) (raw : List Sample) (s : State) (P : Params := .plcphy) : Except FatalCode (State × Nat) :=
  match d with
  | .ook =>
    match s.decOok.parse raw P with
    | .error c => .error c
    | .ok (u, k) => .ok ({ s with decOok := u }, k)
  | .pwm =>
    match s.decPwm.parse raw P with
    | .error c => .error c
    | .ok (u, k) => .ok ({ s with decPwm := u }, k)
  | .morse =>
    match s.decMorse.parse raw P with
    | .error c => .error c
    | .ok (u, k) => .ok ({ s with decMorse := u }, k)
  | .raw => .ok (s, 0)

/-- `PARSE_NEXT_SAMPLES` (42_decoders.md R182, R190, R197, R204). -/
def parseCommand (d : DecUnit) (raw : List Sample) (s : State) (P : Params := .plcphy) :
    Host.Outcome State Fault Refusal :=
  pluginCommand (.dec d) false (fun lc => decide (lc = .active)) s <|
    match decParse d raw s P with
    | .error c => .fatal c
    | .ok (t, k) => .succeed t [countWord k]

/-! `TERMINATE` and the two read commands. -/

/-- The filter of a decoder destroyed, where it has one (40_filter.md R132). -/
def State.destroyDecFlt (s : State) (d : DecUnit) : State :=
  match s.decFlt d with
  | some f => s.setDecFlt d f.destroy
  | none => s

/-- The body of `TERMINATE` (42_decoders.md R176), for a command and for a session. -/
def terminateBody (d : DecUnit) (s : State) : State :=
  (s.destroyDecFlt d).setPlug (.dec d) { s.plug (.dec d) with lc := .idle }

/-- `TERMINATE` (42_decoders.md R176). -/
def terminateCommand (d : DecUnit) (s : State) : Host.Outcome State Fault Refusal :=
  pluginCommand (.dec d) false (fun lc => decide (lc = .active)) s (.succeed (terminateBody d s) [])

/-- `READ_DECODED` (42_decoders.md R205): legal while busy. -/
def readDecodedCommand (d : DecUnit) (m : BitVec 16) (s : State) : Host.Outcome State Fault Refusal :=
  pluginCommand (.dec d) true (fun lc => decide (lc ≠ .absent)) s
    (.succeed (s.setDout d ((s.dout d).drop m.toNat)) (stringWords ((s.dout d).take m.toNat)))

/-- `READ_CAPTURE` (42_decoders.md R206, 40_filter.md R131): legal while busy, and only in ACTIVE. -/
def readCaptureCommand (d : DecUnit) (m : BitVec 16) (s : State) (P : Params := .plcphy) :
    Host.Outcome State Fault Refusal :=
  pluginCommand (.dec d) true (fun lc => decide (lc = .active)) s <|
    match s.decFlt d with
    | none => .refuse .badState 0
    | some f => if !f.allocated then .refuse .badState 0 else .succeed s (f.captureWords m P)

/-! The instructions. -/

/-- `INITIALIZE DEC_OOK` (42_decoders.md R174). -/
def execInitializeDecOok (n : BitVec 16) (s : State) (P : Params := .plcphy) : Host.Outcome State Fault Refusal :=
  initializeCommand .ook n s P

/-- `INITIALIZE DEC_PWM` (42_decoders.md R189). -/
def execInitializeDecPwm (n : BitVec 16) (s : State) (P : Params := .plcphy) : Host.Outcome State Fault Refusal :=
  initializeCommand .pwm n s P

/-- `INITIALIZE DEC_MORSE` (42_decoders.md R194). -/
def execInitializeDecMorse (n : BitVec 16) (s : State) (P : Params := .plcphy) : Host.Outcome State Fault Refusal :=
  initializeCommand .morse n s P

/-- `INITIALIZE DEC_RAW` (42_decoders.md R203). -/
def execInitializeDecRaw (n : BitVec 16) (s : State) (P : Params := .plcphy) : Host.Outcome State Fault Refusal :=
  initializeCommand .raw n s P

/-- `PARSE_NEXT_SAMPLES DEC_OOK` (42_decoders.md R182). -/
def execParseNextSamplesDecOok (raw : List Sample) (s : State) (P : Params := .plcphy) :
    Host.Outcome State Fault Refusal :=
  parseCommand .ook raw s P

/-- `PARSE_NEXT_SAMPLES DEC_PWM` (42_decoders.md R190). -/
def execParseNextSamplesDecPwm (raw : List Sample) (s : State) (P : Params := .plcphy) :
    Host.Outcome State Fault Refusal :=
  parseCommand .pwm raw s P

/-- `PARSE_NEXT_SAMPLES DEC_MORSE` (42_decoders.md R197). -/
def execParseNextSamplesDecMorse (raw : List Sample) (s : State) (P : Params := .plcphy) :
    Host.Outcome State Fault Refusal :=
  parseCommand .morse raw s P

/-- `PARSE_NEXT_SAMPLES DEC_RAW` (42_decoders.md R204). -/
def execParseNextSamplesDecRaw (raw : List Sample) (s : State) (P : Params := .plcphy) :
    Host.Outcome State Fault Refusal :=
  parseCommand .raw raw s P

/-- `TERMINATE DEC_OOK` (42_decoders.md R176). -/
def execTerminateDecOok (s : State) : Host.Outcome State Fault Refusal :=
  terminateCommand .ook s

/-- `TERMINATE DEC_PWM` (42_decoders.md R176). -/
def execTerminateDecPwm (s : State) : Host.Outcome State Fault Refusal :=
  terminateCommand .pwm s

/-- `TERMINATE DEC_MORSE` (42_decoders.md R176). -/
def execTerminateDecMorse (s : State) : Host.Outcome State Fault Refusal :=
  terminateCommand .morse s

/-- `TERMINATE DEC_RAW` (42_decoders.md R176). -/
def execTerminateDecRaw (s : State) : Host.Outcome State Fault Refusal :=
  terminateCommand .raw s

/-- `READ_DECODED DEC_OOK` (42_decoders.md R205). -/
def execReadDecodedDecOok (m : BitVec 16) (s : State) : Host.Outcome State Fault Refusal :=
  readDecodedCommand .ook m s

/-- `READ_DECODED DEC_PWM` (42_decoders.md R205). -/
def execReadDecodedDecPwm (m : BitVec 16) (s : State) : Host.Outcome State Fault Refusal :=
  readDecodedCommand .pwm m s

/-- `READ_DECODED DEC_MORSE` (42_decoders.md R205). -/
def execReadDecodedDecMorse (m : BitVec 16) (s : State) : Host.Outcome State Fault Refusal :=
  readDecodedCommand .morse m s

/-- `READ_DECODED DEC_RAW` (42_decoders.md R205). -/
def execReadDecodedDecRaw (m : BitVec 16) (s : State) : Host.Outcome State Fault Refusal :=
  readDecodedCommand .raw m s

/-- `READ_CAPTURE DEC_OOK` (42_decoders.md R206). -/
def execReadCaptureDecOok (m : BitVec 16) (s : State) (P : Params := .plcphy) : Host.Outcome State Fault Refusal :=
  readCaptureCommand .ook m s P

/-- `READ_CAPTURE DEC_PWM` (42_decoders.md R206). -/
def execReadCaptureDecPwm (m : BitVec 16) (s : State) (P : Params := .plcphy) : Host.Outcome State Fault Refusal :=
  readCaptureCommand .pwm m s P

/-- `READ_CAPTURE DEC_MORSE` (42_decoders.md R206). -/
def execReadCaptureDecMorse (m : BitVec 16) (s : State) (P : Params := .plcphy) : Host.Outcome State Fault Refusal :=
  readCaptureCommand .morse m s P

end Sys2Proof.Machine
end

