-- ==== Sys2Proof/Machine/Encoders.lean ====
section
/-! DEFINITION. The encoder units 8 to 12 (43_encoders.md): their part of `END_SETTINGS`, `RESET`,
`PREPARE_NEXT_SAMPLES` and `PB_LOAD`. -/

namespace Sys2Proof.Machine

/-- The sum `offset + rnd(amp * c)`, clamped: the carrier and tone samples of 43_encoders.md R214, R216, R220. -/
def toneSample (offset : Nat) (amp : BitVec 16) (c : REAL) (P : Params := .plcphy) : Sample :=
  Num.clampTX ((offset : Int) + P.num.rnd (P.num.mul (P.num.ofInt amp.toNat) c)) P

/-! The wave encoder: sweep tables (43_encoders.md R216). -/

/-- The frequency of iteration `i` of `k` (43_encoders.md R216). -/
def sweepFreq (f0 f1 k i : Nat) : Nat :=
  if k = 1 then f0
  else if f0 ≤ f1 then f0 + (f1 - f0) * i / (k - 1)
  else f0 - (f0 - f1) * i / (k - 1)

/-- `d(L)`: the distance of the phase after `L` samples from a whole number of cycles (43_encoders.md R216). -/
def sweepDist (w len : Nat) : Nat := min (len * w % 2 ^ 32) (2 ^ 32 - len * w % 2 ^ 32)

/-- Of `best` and the `count` lengths from `len` on, the one with the least `d`, the largest among equals. -/
def bestLenFrom (w : Nat) : Nat → Nat → Nat → Nat
  | 0, _, best => best
  | count + 1, len, best => bestLenFrom w count (len + 1) (if sweepDist w len ≤ sweepDist w best then len else best)

/-- `best_len(Lnom, w)`: the best length in `[Lnom div 2 + 1, Lnom]` (43_encoders.md R216). -/
def bestLen (lnom w : Nat) : Nat := bestLenFrom w (lnom - (lnom / 2 + 1)) (lnom / 2 + 2) (lnom / 2 + 1)

/-- `tone(u, i, n)` for frequency word `fw` (43_encoders.md R216). -/
def EncWave.tone (u : EncWave) (fw : BitVec 32) (n : Nat) (P : Params := .plcphy) : Sample :=
  toneSample (u.plug.num idOffset) u.amp (P.num.sinw (BitVec.ofNat 32 n * fw)) P

/-- The frequency words of a sweep of `k` iterations (43_encoders.md R216). -/
def sweepWords (p : Plug) (k : Nat) : List (BitVec 32) :=
  (List.range k).map (fun i =>
    Num.freqWord (sweepFreq (p.num idFreq) (p.num idFreqEnd) k i) (p.num idSamplingRate))

/-- `derive_sweep(u)` (43_encoders.md R216). -/
def EncWave.deriveSweep (u : EncWave) (P : Params := .plcphy) : EncWave × Option Msg :=
  let k := u.plug.num idSweepIterations
  let fws := sweepWords u.plug k
  let lens := fws.map (fun fw => bestLen (u.plug.num idSweepIterationSamples) fw.toNat)
  let u1 := { u with swFw := fws, swLen := lens.map (BitVec.ofNat 32), k := BitVec.ofNat 32 k }
  if u.plug.num idSweepPrecomputed = 1 then
    if lens.sum > P.sweepLutMax then (u1, some .sweepInvalid)
    else
      ({ u1 with swLut := (fws.zip lens).map (fun e => (List.range e.2).map (fun n => u1.tone e.1 n P)) }, none)
  else (u1, none)

/-- `derive` of ENC_WAVE (43_encoders.md R212). -/
def EncWave.derive (u : EncWave) (P : Params := .plcphy) : EncWave × Option Msg :=
  let p := u.plug
  let u1 := { u with
    stype := p.num idStreamType,
    efw := Num.freqWord (p.num idFreq) (p.num idSamplingRate),
    rng := BitVec.ofNat 16 (p.num idRange),
    amp := BitVec.ofNat 16 (p.num idRange / 2),
    lo := (p.num idOffset : Int) - ((p.num idRange / 2 : Nat) : Int),
    lvl0 := Num.clampTX (p.num idOffset) P }
  if u1.stype = 5 then u1.deriveSweep P else (u1, none)

/-- `sweep_sample(u)` (43_encoders.md R216). -/
def EncWave.sweepSample (u : EncWave) (P : Params := .plcphy) : Sample × EncWave :=
  let i := u.sweepIter.toNat
  let n := u.sweepN.toNat
  let v :=
    if u.plug.num idSweepPrecomputed = 1 then (u.swLut.getD i []).getD n 0 else u.tone (u.swFw.getD i 0) n P
  let n1 := u.sweepN + 1
  if n1 = u.swLen.getD i 0 then
    (v, { u with sweepN := 0, sweepIter := BitVec.ofNat 32 ((i + 1) % u.k.toNat) })
  else (v, { u with sweepN := n1 })

/-- `sample(u)` of ENC_WAVE (43_encoders.md R214). -/
def EncWave.sample (u : EncWave) (P : Params := .plcphy) : Sample × EncWave :=
  let p := u.phase.toNat
  let rng := u.rng.toNat
  let offset := u.plug.num idOffset
  let vu : Sample × EncWave :=
    match u.stype with
    | 0 => (Num.clampTX offset P, u)
    | 1 => (Num.clampTX (u.lo + ((p * rng / 2 ^ 32 : Nat) : Int)) P, u)
    | 2 =>
      if p < 2 ^ 31 then (Num.clampTX (u.lo + ((p * rng / 2 ^ 31 : Nat) : Int)) P, u)
      else (Num.clampTX (u.lo + (((2 ^ 32 - p) * rng / 2 ^ 31 : Nat) : Int)) P, u)
    | 3 => if p < 2 ^ 31 then (Num.clampTX (u.lo + (rng : Int)) P, u) else (Num.clampTX u.lo P, u)
    | 4 => (toneSample offset u.amp (P.num.sinw u.phase) P, u)
    | _ => u.sweepSample P
  (vu.1, { vu.2 with phase := u.phase + u.efw })

/-! The playback encoder. -/

/-- `derive` of ENC_WAV (43_encoders.md R241). -/
def EncWav.derive (u : EncWav) (P : Params := .plcphy) : EncWav × Option Msg :=
  if u.pbFormat ≠ 1 ∨ u.pbChannels ≠ 1 then (u, some .playbackFormat)
  else if u.pbBits ≠ 8 ∧ u.pbBits ≠ 16 then (u, some .playbackFormat)
  else if u.pbBits = 16 ∧ u.pbBytes.toNat % 2 ≠ 0 then (u, some .playbackFormat)
  else
    ({ u with pbCount := BitVec.ofNat 32 (u.pbBytes.toNat / (u.pbBits.toNat / 8)),
              lvl0 := Num.clampTX (u.plug.num idOffset) P, rep := decide (u.plug.num idRepeat = 1) }, none)

/-- An unsigned 8-bit file sample in the native range (43_encoders.md R243). -/
def rescale8 (b : Byte) (P : Params := .plcphy) : Sample := BitVec.ofNat 16 (b.toNat * 2 ^ P.txBits / 2 ^ 8)

/-- A signed 16-bit little-endian file sample in the native range (43_encoders.md R243, 20_memory.md R67). -/
def rescale16 (lo hi : Byte) (P : Params := .plcphy) : Sample :=
  let s : Int := (hi ++ lo : BitVec 16).toInt
  BitVec.ofNat 16 (((s + 32768) * 2 ^ P.txBits) / 2 ^ 16).toNat

/-- The end of the data, seen before a sample: wrap, or play the idle level for ever (43_encoders.md R243). -/
def EncWav.atEnd (u : EncWav) : EncWav :=
  if u.pbDone = false ∧ u.pbIdx = u.pbCount then
    if u.rep ∧ 0 < u.pbCount.toNat then { u with pbIdx := 0 } else { u with pbDone := true }
  else u

/-- `sample(u)` of ENC_WAV (43_encoders.md R243). -/
def EncWav.sample (pbm : List Host.Cell) (u : EncWav) (P : Params := .plcphy) : Sample × EncWav :=
  let u1 := u.atEnd
  if u1.pbDone then (u1.lvl0, u1)
  else
    let j := u1.pbIdx.toNat
    let v := if u1.pbBits = 8 then rescale8 (pbmByte pbm j) P
             else rescale16 (pbmByte pbm (2 * j)) (pbmByte pbm (2 * j + 1)) P
    (v, { u1 with pbIdx := u1.pbIdx + 1 })

/-! The symbol sequencer of ENC_OOK, ENC_PWM and ENC_MORSE (43_encoders.md R219, R220). -/

/-- `derive_seq(u, segs)` (43_encoders.md R219). -/
def EncSeq.derive (u : EncSeq) (segs : List Segment) (P : Params := .plcphy) : EncSeq × Option Msg :=
  let p := u.plug
  let u1 := { u with spsNum := BitVec.ofNat 64 p.spsNum }
  match symbolLength? p.spsNum with
  | some m => (u1, some m)
  | none =>
    if segs.any (fun g => decide (g.d * p.spsNum ≥ 2 ^ 62)) then (u1, some .symbolTooLong)
    else
      ({ u1 with efw := Num.freqWord (p.num idFreq) (p.num idSamplingRate),
                 amp := BitVec.ofNat 16 (p.num idRange / 2),
                 lvl0 := Num.clampTX (p.num idOffset) P, segs := segs }, none)

/-- `segs_ook` of one byte: the start symbol, eight data symbols most significant first, the guard
(43_encoders.md R221). -/
def ookByteSegments (ig : Nat) (b : Byte) : List Segment :=
  [⟨true, 1⟩, ⟨b.getLsbD 7, 1⟩, ⟨b.getLsbD 6, 1⟩, ⟨b.getLsbD 5, 1⟩, ⟨b.getLsbD 4, 1⟩, ⟨b.getLsbD 3, 1⟩,
   ⟨b.getLsbD 2, 1⟩, ⟨b.getLsbD 1, 1⟩, ⟨b.getLsbD 0, 1⟩, ⟨false, ig⟩]

/-- `segs_ook(message, sg, ig)` (43_encoders.md R221). -/
def segsOok (message : List Byte) (sg ig : Nat) : List Segment :=
  ⟨false, sg⟩ :: message.flatMap (ookByteSegments ig)

/-- `segs_pwm(message, g)` (43_encoders.md R226). -/
def segsPwm (message : List Byte) (g : Nat) : List Segment :=
  message.flatMap (fun b => [⟨true, b.toNat⟩, ⟨false, g⟩])

/-- A lower-case ASCII letter folded to upper case (43_encoders.md R231). -/
def upperCase (b : Byte) : Byte := if 0x61 ≤ b.toNat ∧ b.toNat ≤ 0x7A then b - 0x20 else b

/-- The segments of one character (43_encoders.md R231). -/
def morseByteSegments (b : Byte) (P : Params := .plcphy) : List Segment :=
  let u := P.morseUnits
  let c := upperCase b
  if c = 0x20 then [⟨false, u.gapWord - u.gapChar⟩]
  else
    match P.morseTable.find? (fun r => r.char == c) with
    | none => []
    | some r =>
      r.code.flatMap (fun dash => [⟨true, if dash then u.dash else u.dot⟩, ⟨false, u.gapSym⟩])
        ++ [⟨false, u.gapChar - u.gapSym⟩]

/-- `segs_morse(message)` (43_encoders.md R231). -/
def segsMorse (message : List Byte) (P : Params := .plcphy) : List Segment := message.flatMap (morseByteSegments · P)

/-- The loop of R220 over the segments not loaded yet: load segments until time is left in one, or none is left. DESIGN
CHOICE (log entry 35): past 2^32 segments, which only a larger `STR_MAX` allows, `seg_idx` is kept modulo 2^32. -/
def EncSeq.load : List Segment → EncSeq → EncSeq
  | [], u => if u.done = false ∧ u.acc ≤ 0 then { u with done := true } else u
  | g :: gs, u =>
    if u.done = false ∧ u.acc ≤ 0 then
      EncSeq.load gs { u with curOn := g.on, segIdx := u.segIdx + 1, acc := u.acc + (g.d * u.spsNum.toNat : Nat) }
    else u

/-- `seq_sample(u)` (43_encoders.md R220). -/
def EncSeq.sample (u : EncSeq) (P : Params := .plcphy) : Sample × EncSeq :=
  let u1 := EncSeq.load (u.segs.drop u.segIdx.toNat) u
  let v := if u1.done || !u1.curOn then u1.lvl0 else toneSample (u1.plug.num idOffset) u1.amp (P.num.cosw u1.phase) P
  (v, { u1 with acc := if u1.done then u1.acc else u1.acc - (Config.mag : Int), phase := u1.phase + u1.efw })

/-! What all encoders share (43_encoders.md R211, R238). -/

/-- `sample(u)` of an encoder (43_encoders.md R211). -/
def encSample (e : EncUnit) (s : State) (P : Params := .plcphy) : Sample × State :=
  match e with
  | .wave => ((s.encWave.sample P).1, { s with encWave := (s.encWave.sample P).2 })
  | .wav => ((s.encWav.sample s.pbm P).1, { s with encWav := (s.encWav.sample s.pbm P).2 })
  | .ook => ((s.encOok.sample P).1, { s with encOok := (s.encOok.sample P).2 })
  | .pwm => ((s.encPwm.sample P).1, { s with encPwm := (s.encPwm.sample P).2 })
  | .morse => ((s.encMorse.sample P).1, { s with encMorse := (s.encMorse.sample P).2 })

/-- `k` samples in order (43_encoders.md R211, R237). -/
def encSamples (e : EncUnit) (k : Nat) (s : State) (P : Params := .plcphy) : List Sample × State :=
  match k with
  | 0 => ([], s)
  | k + 1 =>
    let first := encSample e s P
    let rest := encSamples e k first.2 P
    (first.1 :: rest.1, rest.2)

/-- `enc_prepare(u, k, cap)` (43_encoders.md R211). -/
def encPrepare (e : EncUnit) (k cap : Nat) (s : State) (P : Params := .plcphy) :
    Except FatalCode (List Sample × State) :=
  if k > cap then .error .count else .ok (encSamples e k s P)

/-- `PREPARE_NEXT_SAMPLES` (43_encoders.md R211). -/
def prepareCommand (e : EncUnit) (k : BitVec 16) (s : State) (P : Params := .plcphy) :
    Host.Outcome State Fault Refusal :=
  pluginCommand (.enc e) false (fun lc => decide (lc = .active)) s <|
    match encPrepare e k.toNat P.chunkMax s P with
    | .error c => .fatal c
    | .ok (out, t) => .succeed t (packSamples out)

/-- The working registers of ENC_WAVE zeroed, and ACTIVE (43_encoders.md R213, R238). -/
def EncWave.restart (u : EncWave) : EncWave :=
  { u with phase := 0, sweepIter := 0, sweepN := 0, plug := { u.plug with lc := .active } }

/-- The working registers of ENC_WAV zeroed, and ACTIVE (43_encoders.md R242, R238). -/
def EncWav.restart (u : EncWav) : EncWav :=
  { u with pbIdx := 0, pbDone := false, plug := { u.plug with lc := .active } }

/-- The working registers of a bit-stream encoder zeroed, and ACTIVE (43_encoders.md R223, R228, R233, R238). -/
def EncSeq.restart (u : EncSeq) : EncSeq :=
  { u with segIdx := 0, acc := 0, curOn := false, done := false, phase := 0, plug := { u.plug with lc := .active } }

/-- The body of `RESET` after its check (43_encoders.md R238), for a command and for a session. -/
def resetBody (e : EncUnit) (s : State) : State :=
  match e with
  | .wave => { s with encWave := s.encWave.restart }
  | .wav => { s with encWav := s.encWav.restart }
  | .ook => { s with encOok := s.encOok.restart }
  | .pwm => { s with encPwm := s.encPwm.restart }
  | .morse => { s with encMorse := s.encMorse.restart }

/-- `RESET` (43_encoders.md R238). -/
def resetCommand (e : EncUnit) (s : State) : Host.Outcome State Fault Refusal :=
  pluginCommand (.enc e) false (fun lc => decide (lc = .idle ∨ lc = .active)) s <|
    if !(s.plug (.enc e)).ready then .refuse .notReady 0 else .succeed (resetBody e s) []

/-! The instructions. -/

/-- `PB_LOAD ENC_WAV` (43_encoders.md R240). -/
def execPbLoad (format channels bits : BitVec 16) (data : List Byte) (s : State) (P : Params := .plcphy) :
    Host.Outcome State Fault Refusal :=
  pluginCommand (.enc .wav) false (fun lc => decide (lc = .idle ∨ lc = .config)) s <|
    if data.length > P.pbMax then .refuse .outOfRange 0
    else
      .succeed
        { s with
          encWav := { s.encWav with pbFormat := format, pbChannels := channels, pbBits := bits,
                                    pbBytes := BitVec.ofNat 32 data.length,
                                    plug := { s.encWav.plug with ready := false } },
          pbm := Memory.writeFrom s.pbm 0 data } []

/-- `RESET ENC_WAVE` (43_encoders.md R213). -/
def execResetEncWave (s : State) : Host.Outcome State Fault Refusal :=
  resetCommand .wave s

/-- `RESET ENC_WAV` (43_encoders.md R242). -/
def execResetEncWav (s : State) : Host.Outcome State Fault Refusal :=
  resetCommand .wav s

/-- `RESET ENC_OOK` (43_encoders.md R223). -/
def execResetEncOok (s : State) : Host.Outcome State Fault Refusal :=
  resetCommand .ook s

/-- `RESET ENC_PWM` (43_encoders.md R228). -/
def execResetEncPwm (s : State) : Host.Outcome State Fault Refusal :=
  resetCommand .pwm s

/-- `RESET ENC_MORSE` (43_encoders.md R233). -/
def execResetEncMorse (s : State) : Host.Outcome State Fault Refusal :=
  resetCommand .morse s

/-- `PREPARE_NEXT_SAMPLES ENC_WAVE` (43_encoders.md R214). -/
def execPrepareNextSamplesEncWave (k : BitVec 16) (s : State) (P : Params := .plcphy) :
    Host.Outcome State Fault Refusal :=
  prepareCommand .wave k s P

/-- `PREPARE_NEXT_SAMPLES ENC_WAV` (43_encoders.md R243). -/
def execPrepareNextSamplesEncWav (k : BitVec 16) (s : State) (P : Params := .plcphy) :
    Host.Outcome State Fault Refusal :=
  prepareCommand .wav k s P

/-- `PREPARE_NEXT_SAMPLES ENC_OOK` (43_encoders.md R224). -/
def execPrepareNextSamplesEncOok (k : BitVec 16) (s : State) (P : Params := .plcphy) :
    Host.Outcome State Fault Refusal :=
  prepareCommand .ook k s P

/-- `PREPARE_NEXT_SAMPLES ENC_PWM` (43_encoders.md R229). -/
def execPrepareNextSamplesEncPwm (k : BitVec 16) (s : State) (P : Params := .plcphy) :
    Host.Outcome State Fault Refusal :=
  prepareCommand .pwm k s P

/-- `PREPARE_NEXT_SAMPLES ENC_MORSE` (43_encoders.md R234). -/
def execPrepareNextSamplesEncMorse (k : BitVec 16) (s : State) (P : Params := .plcphy) :
    Host.Outcome State Fault Refusal :=
  prepareCommand .morse k s P

end Sys2Proof.Machine
end

