-- ==== Sys2Proof/Machine/Lifecycle.lean ====
section
/-! DEFINITION. The commands every plugin unit has (41_lifecycle_settings.md): `CREATE`, `GET_ACCEPTED_SETTINGS`, the
settings transaction, `RELEASE` and `GET_STATUS`. -/

namespace Sys2Proof.Machine

/-! The operations. -/

/-- A unit as `CREATE` makes it (41_lifecycle_settings.md R143): settings at their defaults, every derived and working
register zero, the stream empty, nothing loaded. A filter that does not exist is as after reset. -/
def createBody (u : PluginUnit) (s : State) (P : Params := .plcphy) : State :=
  match u with
  | .dec .ook =>
    { s with decOok := { core := { DecCore.reset .ook P with plug := Plug.created u }, ook := OokRegs.reset } }
  | .dec .pwm =>
    { s with decPwm := { core := { DecCore.reset .pwm P with plug := Plug.created u }, pwm := PwmRegs.reset } }
  | .dec .morse =>
    { s with decMorse := { core := { DecCore.reset .morse P with plug := Plug.created u }, morse := MorseRegs.reset } }
  | .dec .raw => { s with decRaw := { plug := Plug.created u, dout := [] } }
  | .enc .wave => { s with encWave := { EncWave.reset with plug := Plug.created u } }
  | .enc .wav => { s with encWav := { EncWav.reset with plug := Plug.created u } }
  | .enc .ook => { s with encOok := { EncSeq.reset .ook with plug := Plug.created u } }
  | .enc .pwm => { s with encPwm := { EncSeq.reset .pwm with plug := Plug.created u } }
  | .enc .morse => { s with encMorse := { EncSeq.reset .morse with plug := Plug.created u } }

/-- `CREATE` (41_lifecycle_settings.md R143). -/
def createCommand (u : PluginUnit) (s : State) (P : Params := .plcphy) : Host.Outcome State Fault Refusal :=
  pluginCommand u false (fun lc => decide (lc = .absent)) s (.succeed (createBody u s P) [])

/-- `GET_ACCEPTED_SETTINGS` (41_lifecycle_settings.md R144): legal while busy. -/
def acceptedSettingsCommand (u : PluginUnit) (s : State) (P : Params := .plcphy) : Host.Outcome State Fault Refusal :=
  pluginCommand u true (fun lc => decide (lc ≠ .absent)) s (.succeed s (acceptedSettings u P))

/-- The lifecycle states that admit `BEGIN_SETTINGS`: an encoder's ACTIVE too (41_lifecycle_settings.md R141). -/
def beginLegal (u : PluginUnit) (lc : Lc) : Bool :=
  match u with
  | .dec _ => decide (lc = .idle)
  | .enc _ => decide (lc = .idle ∨ lc = .active)

/-- `BEGIN_SETTINGS` (41_lifecycle_settings.md R146). -/
def beginSettingsCommand (u : PluginUnit) (s : State) : Host.Outcome State Fault Refusal :=
  pluginCommand u false (beginLegal u) s (.succeed (s.setPlug u (s.plug u).beginBracket) [])

/-- A refused `SET_SETTING` (41_lifecycle_settings.md R145). -/
def settingFail (u : PluginUnit) (s : State) (st : Status) (detail : BitVec 8) : CmdResult :=
  .done (s.setPlug u ((s.plug u).noteSettingRejected st)) st detail []

/-- The value a `SET_SETTING` writes to a setting, where the words are well formed and the value legal
(41_lifecycle_settings.md R145). -/
def acceptedValue? (d : SettingDef) (v : SettingArg) (P : Params := .plcphy) : Option SetVal :=
  match settingValue? v P with
  | none => none
  | some x => if d.legal x P then some x else none

/-- `SET_SETTING` (41_lifecycle_settings.md R145). -/
def setSettingCommand (u : PluginUnit) (id : BitVec 16) (v : SettingArg) (s : State) (P : Params := .plcphy) :
    Host.Outcome State Fault Refusal :=
  pluginCommand u false (fun lc => decide (lc = .config)) s <|
    match settingDef? u id.toNat P with
    | none => settingFail u s .unknownSetting 0
    | some d =>
      if v.tag.toNat ≠ d.default.tag then settingFail u s .badType (BitVec.ofNat 8 d.default.tag)
      else
        match acceptedValue? d v P with
        | none => settingFail u s .outOfRange 0
        | some x => .succeed (s.setPlug u ((s.plug u).setSetting id.toNat x)) []

/-- `derive(unit)` (41_lifecycle_settings.md R147): the state with the derived registers written, and the message of a
configuration that is not viable. -/
def deriveUnit (u : PluginUnit) (s : State) (P : Params := .plcphy) : State × Option Msg :=
  match u with
  | .dec .ook => ({ s with decOok := (s.decOok.derive P).1 }, (s.decOok.derive P).2)
  | .dec .pwm => ({ s with decPwm := (s.decPwm.derive P).1 }, (s.decPwm.derive P).2)
  | .dec .morse => ({ s with decMorse := (s.decMorse.derive P).1 }, (s.decMorse.derive P).2)
  | .dec .raw => (s, none)
  | .enc .wave => ({ s with encWave := (s.encWave.derive P).1 }, (s.encWave.derive P).2)
  | .enc .wav => ({ s with encWav := (s.encWav.derive P).1 }, (s.encWav.derive P).2)
  | .enc .ook =>
    let p := s.encOok.plug
    let r := s.encOok.derive (segsOok (p.str idMessage) (p.num idStartGuard) (p.num idInterByteGuard)) P
    ({ s with encOok := r.1 }, r.2)
  | .enc .pwm =>
    let p := s.encPwm.plug
    let r := s.encPwm.derive (segsPwm (p.str idMessage) (p.num idGapUnits)) P
    ({ s with encPwm := r.1 }, r.2)
  | .enc .morse =>
    let r := s.encMorse.derive (segsMorse (s.encMorse.plug.str idMessage) P) P
    ({ s with encMorse := r.1 }, r.2)

/-- The unit back in IDLE (41_lifecycle_settings.md R147). -/
def Plug.endBracket (p : Plug) : Plug := { p with lc := .idle }

/-- The body of `END_SETTINGS` (41_lifecycle_settings.md R147). -/
def endSettingsBody (u : PluginUnit) (s : State) (P : Params := .plcphy) : CmdResult :=
  let s1 := s.setPlug u (s.plug u).endBracket
  let derived := if (s.plug u).txnError then (s1, some Msg.settingRejected) else deriveUnit u s1 P
  match derived.2 with
  | some m => .done (derived.1.setPlug u ((derived.1.plug u).noteConfigError m)) .config m.code []
  | none => .succeed (derived.1.setPlug u (derived.1.plug u).noteConfigOk) []

/-- `END_SETTINGS` (41_lifecycle_settings.md R147). -/
def endSettingsCommand (u : PluginUnit) (s : State) (P : Params := .plcphy) : Host.Outcome State Fault Refusal :=
  pluginCommand u false (fun lc => decide (lc = .config)) s (endSettingsBody u s P)

/-- A unit's filter destroyed, where it has one that exists (41_lifecycle_settings.md R148). -/
def State.destroyUnitFlt (s : State) (u : PluginUnit) : State :=
  match u with
  | .dec d =>
    match s.decFlt d with
    | some f => if f.allocated then s.setDecFlt d f.destroy else s
    | none => s
  | .enc _ => s

/-- A scheduler's binding undone, where the unit is bound (41_lifecycle_settings.md R148). -/
def State.unbindScheduler (s : State) : Bound → State
  | .unbound => s
  | .tx => { s with txs := { s.txs with enc := none } }
  | .rx => { s with rxs := { s.rxs with dec := none } }

/-- The body of `RELEASE` (41_lifecycle_settings.md R148). -/
def releaseBody (u : PluginUnit) (s : State) : State :=
  ((s.destroyUnitFlt u).unbindScheduler (s.plug u).bound).setPlug u (s.plug u).released

/-- `RELEASE` (41_lifecycle_settings.md R148). -/
def releaseCommand (u : PluginUnit) (s : State) : Host.Outcome State Fault Refusal :=
  pluginCommand u false (fun lc => decide (lc ≠ .absent)) s (.succeed (releaseBody u s) [])

/-- `GET_STATUS` (41_lifecycle_settings.md R149): legal in every state of the unit and while busy. -/
def getStatusCommand (u : PluginUnit) (s : State) : Host.Outcome State Fault Refusal :=
  pluginCommand u true (fun _ => true) s (.succeed s [(s.plug u).statusBits])

/-! The instructions. -/

/-- `CREATE DEC_OOK` (R143). -/
def execCreateDecOok (s : State) (P : Params := .plcphy) : Host.Outcome State Fault Refusal :=
  createCommand (.dec .ook) s P

/-- `CREATE DEC_PWM` (R143). -/
def execCreateDecPwm (s : State) (P : Params := .plcphy) : Host.Outcome State Fault Refusal :=
  createCommand (.dec .pwm) s P

/-- `CREATE DEC_MORSE` (R143). -/
def execCreateDecMorse (s : State) (P : Params := .plcphy) : Host.Outcome State Fault Refusal :=
  createCommand (.dec .morse) s P

/-- `CREATE DEC_RAW` (R143). -/
def execCreateDecRaw (s : State) (P : Params := .plcphy) : Host.Outcome State Fault Refusal :=
  createCommand (.dec .raw) s P

/-- `CREATE ENC_WAVE` (R143). -/
def execCreateEncWave (s : State) (P : Params := .plcphy) : Host.Outcome State Fault Refusal :=
  createCommand (.enc .wave) s P

/-- `CREATE ENC_WAV` (R143). -/
def execCreateEncWav (s : State) (P : Params := .plcphy) : Host.Outcome State Fault Refusal :=
  createCommand (.enc .wav) s P

/-- `CREATE ENC_OOK` (R143). -/
def execCreateEncOok (s : State) (P : Params := .plcphy) : Host.Outcome State Fault Refusal :=
  createCommand (.enc .ook) s P

/-- `CREATE ENC_PWM` (R143). -/
def execCreateEncPwm (s : State) (P : Params := .plcphy) : Host.Outcome State Fault Refusal :=
  createCommand (.enc .pwm) s P

/-- `CREATE ENC_MORSE` (R143). -/
def execCreateEncMorse (s : State) (P : Params := .plcphy) : Host.Outcome State Fault Refusal :=
  createCommand (.enc .morse) s P

/-- `GET_ACCEPTED_SETTINGS DEC_OOK` (R144). -/
def execGetAcceptedSettingsDecOok (s : State) (P : Params := .plcphy) : Host.Outcome State Fault Refusal :=
  acceptedSettingsCommand (.dec .ook) s P

/-- `GET_ACCEPTED_SETTINGS DEC_PWM` (R144). -/
def execGetAcceptedSettingsDecPwm (s : State) (P : Params := .plcphy) : Host.Outcome State Fault Refusal :=
  acceptedSettingsCommand (.dec .pwm) s P

/-- `GET_ACCEPTED_SETTINGS DEC_MORSE` (R144). -/
def execGetAcceptedSettingsDecMorse (s : State) (P : Params := .plcphy) : Host.Outcome State Fault Refusal :=
  acceptedSettingsCommand (.dec .morse) s P

/-- `GET_ACCEPTED_SETTINGS DEC_RAW` (R144). -/
def execGetAcceptedSettingsDecRaw (s : State) (P : Params := .plcphy) : Host.Outcome State Fault Refusal :=
  acceptedSettingsCommand (.dec .raw) s P

/-- `GET_ACCEPTED_SETTINGS ENC_WAVE` (R144). -/
def execGetAcceptedSettingsEncWave (s : State) (P : Params := .plcphy) : Host.Outcome State Fault Refusal :=
  acceptedSettingsCommand (.enc .wave) s P

/-- `GET_ACCEPTED_SETTINGS ENC_WAV` (R144). -/
def execGetAcceptedSettingsEncWav (s : State) (P : Params := .plcphy) : Host.Outcome State Fault Refusal :=
  acceptedSettingsCommand (.enc .wav) s P

/-- `GET_ACCEPTED_SETTINGS ENC_OOK` (R144). -/
def execGetAcceptedSettingsEncOok (s : State) (P : Params := .plcphy) : Host.Outcome State Fault Refusal :=
  acceptedSettingsCommand (.enc .ook) s P

/-- `GET_ACCEPTED_SETTINGS ENC_PWM` (R144). -/
def execGetAcceptedSettingsEncPwm (s : State) (P : Params := .plcphy) : Host.Outcome State Fault Refusal :=
  acceptedSettingsCommand (.enc .pwm) s P

/-- `GET_ACCEPTED_SETTINGS ENC_MORSE` (R144). -/
def execGetAcceptedSettingsEncMorse (s : State) (P : Params := .plcphy) : Host.Outcome State Fault Refusal :=
  acceptedSettingsCommand (.enc .morse) s P

/-- `BEGIN_SETTINGS DEC_OOK` (R146). -/
def execBeginSettingsDecOok (s : State) : Host.Outcome State Fault Refusal :=
  beginSettingsCommand (.dec .ook) s

/-- `BEGIN_SETTINGS DEC_PWM` (R146). -/
def execBeginSettingsDecPwm (s : State) : Host.Outcome State Fault Refusal :=
  beginSettingsCommand (.dec .pwm) s

/-- `BEGIN_SETTINGS DEC_MORSE` (R146). -/
def execBeginSettingsDecMorse (s : State) : Host.Outcome State Fault Refusal :=
  beginSettingsCommand (.dec .morse) s

/-- `BEGIN_SETTINGS DEC_RAW` (R146). -/
def execBeginSettingsDecRaw (s : State) : Host.Outcome State Fault Refusal :=
  beginSettingsCommand (.dec .raw) s

/-- `BEGIN_SETTINGS ENC_WAVE` (R146). -/
def execBeginSettingsEncWave (s : State) : Host.Outcome State Fault Refusal :=
  beginSettingsCommand (.enc .wave) s

/-- `BEGIN_SETTINGS ENC_WAV` (R146). -/
def execBeginSettingsEncWav (s : State) : Host.Outcome State Fault Refusal :=
  beginSettingsCommand (.enc .wav) s

/-- `BEGIN_SETTINGS ENC_OOK` (R146). -/
def execBeginSettingsEncOok (s : State) : Host.Outcome State Fault Refusal :=
  beginSettingsCommand (.enc .ook) s

/-- `BEGIN_SETTINGS ENC_PWM` (R146). -/
def execBeginSettingsEncPwm (s : State) : Host.Outcome State Fault Refusal :=
  beginSettingsCommand (.enc .pwm) s

/-- `BEGIN_SETTINGS ENC_MORSE` (R146). -/
def execBeginSettingsEncMorse (s : State) : Host.Outcome State Fault Refusal :=
  beginSettingsCommand (.enc .morse) s

/-- `SET_SETTING DEC_OOK` (R145). -/
def execSetSettingDecOok (id : BitVec 16) (value : SettingArg) (s : State) (P : Params := .plcphy) :
    Host.Outcome State Fault Refusal :=
  setSettingCommand (.dec .ook) id value s P

/-- `SET_SETTING DEC_PWM` (R145). -/
def execSetSettingDecPwm (id : BitVec 16) (value : SettingArg) (s : State) (P : Params := .plcphy) :
    Host.Outcome State Fault Refusal :=
  setSettingCommand (.dec .pwm) id value s P

/-- `SET_SETTING DEC_MORSE` (R145). -/
def execSetSettingDecMorse (id : BitVec 16) (value : SettingArg) (s : State) (P : Params := .plcphy) :
    Host.Outcome State Fault Refusal :=
  setSettingCommand (.dec .morse) id value s P

/-- `SET_SETTING DEC_RAW` (R145). -/
def execSetSettingDecRaw (id : BitVec 16) (value : SettingArg) (s : State) (P : Params := .plcphy) :
    Host.Outcome State Fault Refusal :=
  setSettingCommand (.dec .raw) id value s P

/-- `SET_SETTING ENC_WAVE` (R145). -/
def execSetSettingEncWave (id : BitVec 16) (value : SettingArg) (s : State) (P : Params := .plcphy) :
    Host.Outcome State Fault Refusal :=
  setSettingCommand (.enc .wave) id value s P

/-- `SET_SETTING ENC_WAV` (R145). -/
def execSetSettingEncWav (id : BitVec 16) (value : SettingArg) (s : State) (P : Params := .plcphy) :
    Host.Outcome State Fault Refusal :=
  setSettingCommand (.enc .wav) id value s P

/-- `SET_SETTING ENC_OOK` (R145). -/
def execSetSettingEncOok (id : BitVec 16) (value : SettingArg) (s : State) (P : Params := .plcphy) :
    Host.Outcome State Fault Refusal :=
  setSettingCommand (.enc .ook) id value s P

/-- `SET_SETTING ENC_PWM` (R145). -/
def execSetSettingEncPwm (id : BitVec 16) (value : SettingArg) (s : State) (P : Params := .plcphy) :
    Host.Outcome State Fault Refusal :=
  setSettingCommand (.enc .pwm) id value s P

/-- `SET_SETTING ENC_MORSE` (R145). -/
def execSetSettingEncMorse (id : BitVec 16) (value : SettingArg) (s : State) (P : Params := .plcphy) :
    Host.Outcome State Fault Refusal :=
  setSettingCommand (.enc .morse) id value s P

/-- `END_SETTINGS DEC_OOK` (R147, R173). -/
def execEndSettingsDecOok (s : State) (P : Params := .plcphy) : Host.Outcome State Fault Refusal :=
  endSettingsCommand (.dec .ook) s P

/-- `END_SETTINGS DEC_PWM` (R147, R188). -/
def execEndSettingsDecPwm (s : State) (P : Params := .plcphy) : Host.Outcome State Fault Refusal :=
  endSettingsCommand (.dec .pwm) s P

/-- `END_SETTINGS DEC_MORSE` (R147, R193). -/
def execEndSettingsDecMorse (s : State) (P : Params := .plcphy) : Host.Outcome State Fault Refusal :=
  endSettingsCommand (.dec .morse) s P

/-- `END_SETTINGS DEC_RAW` (R147, R202). -/
def execEndSettingsDecRaw (s : State) (P : Params := .plcphy) : Host.Outcome State Fault Refusal :=
  endSettingsCommand (.dec .raw) s P

/-- `END_SETTINGS ENC_WAVE` (R147, R212). -/
def execEndSettingsEncWave (s : State) (P : Params := .plcphy) : Host.Outcome State Fault Refusal :=
  endSettingsCommand (.enc .wave) s P

/-- `END_SETTINGS ENC_WAV` (R147, R241). -/
def execEndSettingsEncWav (s : State) (P : Params := .plcphy) : Host.Outcome State Fault Refusal :=
  endSettingsCommand (.enc .wav) s P

/-- `END_SETTINGS ENC_OOK` (R147, R222). -/
def execEndSettingsEncOok (s : State) (P : Params := .plcphy) : Host.Outcome State Fault Refusal :=
  endSettingsCommand (.enc .ook) s P

/-- `END_SETTINGS ENC_PWM` (R147, R227). -/
def execEndSettingsEncPwm (s : State) (P : Params := .plcphy) : Host.Outcome State Fault Refusal :=
  endSettingsCommand (.enc .pwm) s P

/-- `END_SETTINGS ENC_MORSE` (R147, R232). -/
def execEndSettingsEncMorse (s : State) (P : Params := .plcphy) : Host.Outcome State Fault Refusal :=
  endSettingsCommand (.enc .morse) s P

/-- `RELEASE DEC_OOK` (R148). -/
def execReleaseDecOok (s : State) : Host.Outcome State Fault Refusal :=
  releaseCommand (.dec .ook) s

/-- `RELEASE DEC_PWM` (R148). -/
def execReleaseDecPwm (s : State) : Host.Outcome State Fault Refusal :=
  releaseCommand (.dec .pwm) s

/-- `RELEASE DEC_MORSE` (R148). -/
def execReleaseDecMorse (s : State) : Host.Outcome State Fault Refusal :=
  releaseCommand (.dec .morse) s

/-- `RELEASE DEC_RAW` (R148). -/
def execReleaseDecRaw (s : State) : Host.Outcome State Fault Refusal :=
  releaseCommand (.dec .raw) s

/-- `RELEASE ENC_WAVE` (R148). -/
def execReleaseEncWave (s : State) : Host.Outcome State Fault Refusal :=
  releaseCommand (.enc .wave) s

/-- `RELEASE ENC_WAV` (R148). -/
def execReleaseEncWav (s : State) : Host.Outcome State Fault Refusal :=
  releaseCommand (.enc .wav) s

/-- `RELEASE ENC_OOK` (R148). -/
def execReleaseEncOok (s : State) : Host.Outcome State Fault Refusal :=
  releaseCommand (.enc .ook) s

/-- `RELEASE ENC_PWM` (R148). -/
def execReleaseEncPwm (s : State) : Host.Outcome State Fault Refusal :=
  releaseCommand (.enc .pwm) s

/-- `RELEASE ENC_MORSE` (R148). -/
def execReleaseEncMorse (s : State) : Host.Outcome State Fault Refusal :=
  releaseCommand (.enc .morse) s

/-- `GET_STATUS DEC_OOK` (R149). -/
def execGetStatusDecOok (s : State) : Host.Outcome State Fault Refusal :=
  getStatusCommand (.dec .ook) s

/-- `GET_STATUS DEC_PWM` (R149). -/
def execGetStatusDecPwm (s : State) : Host.Outcome State Fault Refusal :=
  getStatusCommand (.dec .pwm) s

/-- `GET_STATUS DEC_MORSE` (R149). -/
def execGetStatusDecMorse (s : State) : Host.Outcome State Fault Refusal :=
  getStatusCommand (.dec .morse) s

/-- `GET_STATUS DEC_RAW` (R149). -/
def execGetStatusDecRaw (s : State) : Host.Outcome State Fault Refusal :=
  getStatusCommand (.dec .raw) s

/-- `GET_STATUS ENC_WAVE` (R149). -/
def execGetStatusEncWave (s : State) : Host.Outcome State Fault Refusal :=
  getStatusCommand (.enc .wave) s

/-- `GET_STATUS ENC_WAV` (R149). -/
def execGetStatusEncWav (s : State) : Host.Outcome State Fault Refusal :=
  getStatusCommand (.enc .wav) s

/-- `GET_STATUS ENC_OOK` (R149). -/
def execGetStatusEncOok (s : State) : Host.Outcome State Fault Refusal :=
  getStatusCommand (.enc .ook) s

/-- `GET_STATUS ENC_PWM` (R149). -/
def execGetStatusEncPwm (s : State) : Host.Outcome State Fault Refusal :=
  getStatusCommand (.enc .pwm) s

/-- `GET_STATUS ENC_MORSE` (R149). -/
def execGetStatusEncMorse (s : State) : Host.Outcome State Fault Refusal :=
  getStatusCommand (.enc .morse) s

end Sys2Proof.Machine
end

