-- ==== Sys2Proof/Machine/Scheduler.lean ====
section
/-! DEFINITION. The two sample schedulers (44_scheduler.md): binding with its ABI check, the eight scheduler commands and
`SYS_STATUS`, the steps of TXS and RXS, the capture timeout, and the two ways a stop ends. -/

namespace Sys2Proof.Machine

/-! Binding (R261 to R263). -/

/-- `abi_check(u, want_kind)`: 0, or what is wrong with the unit's record (44_scheduler.md R261). -/
def abiCheck (u : PluginUnit) (want : PluginKind) (P : Params := .plcphy) : BitVec 8 :=
  let r := P.abi u
  if r.kind ≠ want then 4
  else if r.major.toNat < 1 then 1
  else if r.tableSize.toNat < abiExpected want then 2
  else if (List.range (abiExpected want)).all (fun k => r.present.getLsbD k) then 0
  else 3

/-- `u.bound <- b`. -/
def State.setBound (s : State) (u : PluginUnit) (b : Bound) : State := s.setPlug u { s.plug u with bound := b }

/-- The encoder bound to TXS loses its binding, if there is one (44_scheduler.md R262). -/
def State.unbindTx (s : State) : State :=
  match s.txs.enc with
  | some e => s.setBound (.enc e) .unbound
  | none => s

/-- The decoder bound to RXS loses its binding, if there is one (44_scheduler.md R263). -/
def State.unbindRx (s : State) : State :=
  match s.rxs.dec with
  | some d => s.setBound (.dec d) .unbound
  | none => s

/-- An encoder becomes the one TXS drives (44_scheduler.md R262). -/
def bindTx (e : EncUnit) (s : State) : State :=
  let t := s.unbindTx.setBound (.enc e) .tx
  { t with txs := { t.txs with enc := some e } }

/-- A decoder becomes the one RXS drives (44_scheduler.md R263). -/
def bindRx (d : DecUnit) (s : State) : State :=
  let t := s.unbindRx.setBound (.dec d) .rx
  { t with rxs := { t.rxs with dec := some d } }

/-- `E_BAD_STATE` with `16 + lc`: the unit's lifecycle does not admit a scheduler's command (30_encoding.md R96). -/
def refuseUnitState (lc : Lc) : CmdResult := .refuse .badState (16 + lc.code)

/-- The body of `TX_BIND` (44_scheduler.md R262). DESIGN CHOICE (log entry 31): a decoder, which passes the check only if
its `ABI` record contradicts its own kind, is refused with `E_ABI` and detail 4. -/
def txBindBody (unit : BitVec 16) (s : State) (P : Params := .plcphy) : CmdResult :=
  if s.txs.state ≠ .idle then .refuse .badState s.txs.state.code
  else
    match pluginUnit? unit.toNat with
    | none => .refuse .outOfRange 0
    | some u =>
      if abiCheck u .encoder P ≠ 0 then .refuse .abi (abiCheck u .encoder P)
      else
        match u with
        | .dec _ => .refuse .abi 4
        | .enc e =>
          if (s.plug (.enc e)).lc = .absent then refuseUnitState .absent else .succeed (bindTx e s) []

/-- The body of `RX_BIND` (44_scheduler.md R263). DESIGN CHOICE (log entry 31): an encoder, which passes the check only if
its `ABI` record contradicts its own kind, is refused with `E_ABI` and detail 4. -/
def rxBindBody (unit : BitVec 16) (s : State) (P : Params := .plcphy) : CmdResult :=
  if s.rxs.state ≠ .idle then .refuse .badState s.rxs.state.code
  else
    match pluginUnit? unit.toNat with
    | none => .refuse .outOfRange 0
    | some u =>
      if abiCheck u .decoder P ≠ 0 then .refuse .abi (abiCheck u .decoder P)
      else
        match u with
        | .enc _ => .refuse .abi 4
        | .dec d =>
          if (s.plug (.dec d)).lc = .absent then refuseUnitState .absent else .succeed (bindRx d s) []

/-! Starting (R267, R281). -/

/-- A TX session begins, the encoder being reset (44_scheduler.md R267). -/
def txBegin (n : BitVec 16) (s : State) (P : Params := .plcphy) : State :=
  { s with
    txs := { s.txs with state := if P.txPreload then .preloading else .armed, phase := .check, n := n, fillIdx := 0,
                        inflight := none, stopReq := false, forced := false, cycles := 0, dueNs := 0, dueRem := 0 },
    txPool := reclaimAll s.txPool, txFilled := s.txFilled.map (fun _ => false), txQueue := [] }

/-- The body of `TX_START` (44_scheduler.md R267). DESIGN CHOICE (log entry 33): a length above `CHUNK_MAX`, which R267 does
not check, is accepted, and a buffer then holds `n` samples. -/
def txStartBody (n : BitVec 16) (s : State) (P : Params := .plcphy) : CmdResult :=
  if s.txs.state ≠ .idle then .refuse .badState s.txs.state.code
  else if n = 0 then .refuse .outOfRange 0
  else
    match s.txs.enc with
    | none => .refuse .notReady 0
    | some e =>
      if (s.plug (.enc e)).lc = .config then refuseUnitState .config
      else if !(s.plug (.enc e)).ready then .refuse .notReady 0
      else if s.txBusy then .refuse .busy 1
      else .succeed (txBegin n (resetBody e s) P) []

/-- An RX session begins, the decoder being initialised (44_scheduler.md R281). -/
def rxBegin (n : BitVec 16) (s : State) : State :=
  { s with
    rxs := { s.rxs with state := .armed, phase := .check, n := n, wrIdx := 0, rdIdx := 0, pending := 0, armedBuf := none,
                        stopReq := false, forced := false, captured := 0, timeouts := 0 },
    rxPool := reclaimAll s.rxPool, rxQueue := [] }

/-- The body of `RX_START` (44_scheduler.md R281). -/
def rxStartBody (n : BitVec 16) (s : State) (P : Params := .plcphy) : CmdResult :=
  if s.rxs.state ≠ .idle then .refuse .badState s.rxs.state.code
  else if n = 0 then .refuse .outOfRange 0
  else
    match s.rxs.dec with
    | none => .refuse .notReady 0
    | some d =>
      if (s.plug (.dec d)).lc ≠ .idle then refuseUnitState (s.plug (.dec d)).lc
      else if !(s.plug (.dec d)).ready then .refuse .notReady 0
      else if s.rxBusy then .refuse .busy 1
      else
        match initializeBody d n s P with
        | .done t _ _ _ => .succeed (rxBegin n t) []
        | .refuse st detail => .refuse st detail
        | .fatal c => .fatal c

/-! Filling and draining TX buffers (R269, R272, R274). -/

/-- What `tx_fill` ends in. -/
inductive FillResult where
  | filled (s : State)
  | fatal (c : FatalCode)
  | unbound

/-- `tx_fill(j)` (44_scheduler.md R269). -/
def txFill (j : Nat) (s : State) (P : Params := .plcphy) : FillResult :=
  match s.txs.enc with
  | none => .unbound
  | some e =>
    match encPrepare e s.txs.n.toNat s.txs.n.toNat s P with
    | .error c => .fatal c
    | .ok (out, t) =>
      match bufWriteAll t.txPool t.txs.n.toNat .sched j 0 out with
      | .error c => .fatal c
      | .ok pool => .filled { t with txPool := pool, txFilled := t.txFilled.set j true }

/-- A buffer number taken one further round its pool. -/
def nextBuf (size j : Nat) : Nat := (j + 1) % size

/-- One event consumed by TXS (44_scheduler.md R272, R274): `filled` is cleared in WAIT only. A wrong count is fatal, and
the event is gone (60_exceptions.md R306). -/
def txConsume (inWait : Bool) (ev : Word) (rest : List Word) (s : State) : State :=
  let t := { s with txQueue := rest }
  if s.txs.inflight = some ev.unit.toNat then
    if ev.arg ≠ s.txs.n then t.raiseFatal .count
    else
      { t with txs := { t.txs with inflight := none }, txPool := setOwner t.txPool ev.unit.toNat .sched,
               txFilled := if inWait then t.txFilled.set ev.unit.toNat false else t.txFilled }
  else t

/-- TXS back in IDLE with every buffer its own, none filled and its queue flushed (44_scheduler.md R274, R290). -/
def txClose (s : State) : State :=
  { s with txs := { s.txs with state := .idle, phase := .check, inflight := none, stopReq := false },
           txPool := reclaimAll s.txPool, txFilled := s.txFilled.map (fun _ => false), txQueue := [] }

/-- The pacing registers after a hand-over at a rate that is not 0 (44_scheduler.md R273); a sum that 64 bits cannot
hold leaves `due_ns` free (log entry 15). -/
def Txs.pace (t : Txs) (rate : Nat) : Txs :=
  let total := t.dueRem.toNat + t.n.toNat * 1000000000
  let due := t.dueNs.toNat + total / rate
  { t with dueNs := if due < 2 ^ 64 then BitVec.ofNat 64 due else Config.dueOverflow due,
           dueRem := BitVec.ofNat 32 (total % rate) }

/-- The registers of TXS after a hand-over of the buffer `fill_idx` (44_scheduler.md R273). -/
def Txs.hand (t : Txs) (rate : Nat) (P : Params := .plcphy) : Txs :=
  let t1 := { t with inflight := some t.fillIdx, fillIdx := nextBuf P.txPool t.fillIdx, cycles := t.cycles + 1,
                     phase := .check }
  if rate = 0 then t1 else t1.pace rate

/-- RUNNING.HAND for the bound encoder (44_scheduler.md R273); a unit without a sampling rate has rate 0. -/
def txHand (e : EncUnit) (s : State) (P : Params := .plcphy) : State :=
  let j := s.txs.fillIdx
  let t := s.emitTxSend j s.txs.n
  { t with txPool := setOwner t.txPool j .transport, txs := t.txs.hand ((s.plug (.enc e)).num idSamplingRate) P }

/-! The steps of TXS (R266 to R274). -/

def State.setTxState (s : State) (x : TxState) : State := { s with txs := { s.txs with state := x } }

def State.setTxPhase (s : State) (x : TxPhase) : State := { s with txs := { s.txs with phase := x } }

/-- PRELOADING (44_scheduler.md R268). -/
def txPreloading (s : State) (P : Params := .plcphy) : Host.Outcome State Fault Refusal :=
  if s.txs.stopReq then .next (s.setTxState .stopping)
  else if s.txFilled.getD s.txs.fillIdx false then .next (s.setTxState .armed)
  else
    match txFill s.txs.fillIdx s P with
    | .filled t => .next { t with txs := { t.txs with fillIdx := nextBuf P.txPool t.txs.fillIdx } }
    | .fatal c => .next (s.raiseFatal c)
    | .unbound => .fault .unbound

/-- RUNNING.FILL (44_scheduler.md R269). -/
def txRunFill (s : State) (P : Params := .plcphy) : Host.Outcome State Fault Refusal :=
  if s.txFilled.getD s.txs.fillIdx false then .next (s.setTxPhase .pace)
  else
    match txFill s.txs.fillIdx s P with
    | .filled t => .next (t.setTxPhase .pace)
    | .fatal c => .next (s.raiseFatal c)
    | .unbound => .fault .unbound

/-- RUNNING.WAIT (44_scheduler.md R272): not enabled while a buffer is in flight and no event is queued. -/
def txWait (s : State) : State :=
  match s.txs.inflight with
  | none => s.setTxPhase .hand
  | some _ =>
    match s.txQueue with
    | [] => s
    | ev :: rest => txConsume true ev rest s

/-- STOPPING (44_scheduler.md R274): not enabled while a buffer is in flight and no event is queued. -/
def txStopping (s : State) : State :=
  match s.txs.inflight with
  | none => txClose s
  | some _ =>
    match s.txQueue with
    | [] => s
    | ev :: rest => txConsume false ev rest s

/-- RUNNING, by phase (44_scheduler.md R266). -/
def txRunning (s : State) (P : Params := .plcphy) : Host.Outcome State Fault Refusal :=
  match s.txs.phase with
  | .check => .next (if s.txs.stopReq then s.setTxState .stopping else s.setTxPhase .fill)
  | .fill => txRunFill s P
  | .pace => .next (s.setTxPhase .wait)
  | .wait => .next (txWait s)
  | .hand =>
    match s.txs.enc with
    | some e => .next (txHand e s P)
    | none => .fault .unbound

/-- The step of TXS, if one is enabled; otherwise nothing happens (44_scheduler.md R266). A halted PLCPHY takes none
(60_exceptions.md R306). -/
def txsStep (s : State) (P : Params := .plcphy) : Host.Outcome State Fault Refusal :=
  if s.halted then .next s
  else
    match s.txs.state with
    | .idle => .next s
    | .preloading => txPreloading s P
    | .armed => .next (if s.txs.stopReq then s.setTxState .stopping else (s.setTxState .running).setTxPhase .check)
    | .running => txRunning s P
    | .stopping => .next (txStopping s)

/-! The steps of RXS (R280 to R288). -/

def State.setRxState (s : State) (x : RxState) : State := { s with rxs := { s.rxs with state := x } }

def State.setRxPhase (s : State) (x : RxPhase) : State := { s with rxs := { s.rxs with phase := x } }

/-- RUNNING.CHECK (44_scheduler.md R283). -/
def rxCheck (s : State) : State :=
  if s.rxs.stopReq then s.setRxState .stopping
  else if s.rxs.armedBuf = none then s.setRxPhase .trigger
  else if 0 < s.rxs.pending then s.setRxPhase .dispatch
  else s.setRxPhase .wait

/-- RUNNING.TRIGGER (44_scheduler.md R285). -/
def rxTrigger (s : State) (P : Params := .plcphy) : State :=
  let j := s.rxs.wrIdx
  let t := s.emitRxCapture j s.rxs.n
  { t with rxPool := setOwner t.rxPool j .transport,
           rxs := { t.rxs with armedBuf := some j,
                               phase := if P.rxOverlap && decide (0 < t.rxs.pending) then .dispatch else .wait } }

/-- RUNNING.WAIT, capture complete: one event consumed by RXS (44_scheduler.md R284). A wrong count is fatal, and the
event is gone (60_exceptions.md R306). -/
def rxConsume (ev : Word) (rest : List Word) (s : State) (P : Params := .plcphy) : State :=
  let t := { s with rxQueue := rest }
  if s.rxs.armedBuf = some ev.unit.toNat then
    if ev.arg ≠ s.rxs.n then t.raiseFatal .count
    else
      { t with rxPool := setOwner t.rxPool ev.unit.toNat .sched,
               rxs := { t.rxs with armedBuf := none, pending := t.rxs.pending + 1,
                                   wrIdx := nextBuf P.rxPool t.rxs.wrIdx,
                                   phase := if P.rxOverlap then .check else .dispatch } }
  else t

/-- RUNNING.WAIT (44_scheduler.md R284): not enabled while no event is queued. -/
def rxWait (s : State) (P : Params := .plcphy) : State :=
  match s.rxQueue with
  | [] => s
  | ev :: rest => rxConsume ev rest s P

/-- RUNNING.DISPATCH (44_scheduler.md R286). -/
def rxDispatch (s : State) (P : Params := .plcphy) : Host.Outcome State Fault Refusal :=
  match s.rxs.dec with
  | none => .fault .unbound
  | some d =>
    match bufReadAll s.tick s.rxPool s.rxs.n.toNat .sched s.rxs.rdIdx s.rxs.n.toNat 0 with
    | .error c => .next (s.raiseFatal c)
    | .ok chunk =>
      match decParse d chunk s P with
      | .error c => .next (s.raiseFatal c)
      | .ok (t, _) =>
        .next { t with rxs := { t.rxs with captured := t.rxs.captured + 1,
                                           rdIdx := nextBuf P.rxPool t.rxs.rdIdx,
                                           pending := t.rxs.pending - 1, phase := .check } }

/-- RXS back in IDLE: the armed capture aborted, every buffer its own, undispatched chunks dropped, its queue flushed,
the decoder terminated (44_scheduler.md R288, R290). -/
def rxClose (s : State) : Host.Outcome State Fault Refusal :=
  match s.rxs.dec with
  | none => .fault .unbound
  | some d =>
    let t := terminateBody d s.abortArmed
    .next { t with rxPool := reclaimAll t.rxPool, rxQueue := [],
                   rxs := { t.rxs with armedBuf := none, pending := 0, rdIdx := t.rxs.wrIdx, phase := .check,
                                       stopReq := false, state := .idle } }

/-- RUNNING, by phase (44_scheduler.md R280). -/
def rxRunning (s : State) (P : Params := .plcphy) : Host.Outcome State Fault Refusal :=
  match s.rxs.phase with
  | .check => .next (rxCheck s)
  | .trigger => .next (rxTrigger s P)
  | .wait => .next (rxWait s P)
  | .dispatch => rxDispatch s P

/-- The step of RXS, if one is enabled; otherwise nothing happens (44_scheduler.md R280). A halted PLCPHY takes none
(60_exceptions.md R306). -/
def rxsStep (s : State) (P : Params := .plcphy) : Host.Outcome State Fault Refusal :=
  if s.halted then .next s
  else
    match s.rxs.state with
    | .idle => .next s
    | .armed => .next (if s.rxs.stopReq then s.setRxState .stopping else (s.setRxState .running).setRxPhase .check)
    | .running => rxRunning s P
    | .stopping => rxClose s

/-! The expiries and the end of a stop (R287, R290). -/

/-- The armed buffer taken back (44_scheduler.md R287). -/
def State.reclaimArmed (s : State) : State :=
  match s.rxs.armedBuf with
  | some j => { s with rxPool := setOwner s.rxPool j .sched }
  | none => s

/-- The capture timeout is enabled: RXS waits and no event is queued (44_scheduler.md R287, 60_exceptions.md R313). -/
def captureTimeoutEnabled (s : State) : Bool :=
  !s.halted && decide (s.rxs.state = .running) && decide (s.rxs.phase = .wait) && s.rxQueue.isEmpty

/-- The capture timeout (44_scheduler.md R287): the capture aborted, and the same buffer triggered again. -/
def captureTimeoutStep (s : State) : State :=
  if captureTimeoutEnabled s then
    let t := s.abortArmed.reclaimArmed
    { t with rxs := { t.rxs with timeouts := t.rxs.timeouts + 1, armedBuf := none, phase := .check } }
  else s

/-- The scheduler of a direction is in IDLE. -/
def State.schedIdle (s : State) : Dir → Bool
  | .tx => decide (s.txs.state = .idle)
  | .rx => decide (s.rxs.state = .idle)

/-- The register `forced` of a direction. -/
def State.schedForced (s : State) : Dir → Bool
  | .tx => s.txs.forced
  | .rx => s.rxs.forced

/-- The join timeout's effect on a direction (44_scheduler.md R290). -/
def forceStop (s : State) : Dir → Host.Outcome State Fault Refusal
  | .tx => .next (txClose { s with txs := { s.txs with forced := true } })
  | .rx => rxClose { s with rxs := { s.rxs with forced := true } }

/-- Join expiry, enabled while a stop is withheld and its scheduler has not reached IDLE (44_scheduler.md R290). -/
def joinExpiryStep (s : State) : Host.Outcome State Fault Refusal :=
  if s.halted then .next s
  else
    match s.stopWait with
    | none => .next s
    | some d => if s.schedIdle d then .next s else forceStop s d

/-- The withheld stop of direction `d` ends when it can (44_scheduler.md R290, 60_exceptions.md R307). -/
def completeStop (d : Dir) (s : State) : State :=
  if s.halted then { s.answerHalted with stopWait := none }
  else if s.schedIdle d then
    { s.respond (if s.schedForced d then .stopForced else .ok) 0 [] with stopWait := none }
  else s

/-! The instructions. -/

/-- `TX_BIND TXS` (44_scheduler.md R262). -/
def execTxBind (unit : BitVec 16) (s : State) (P : Params := .plcphy) :
    Host.Outcome State Fault Refusal := blockCommand s (txBindBody unit s P)

/-- `TX_START TXS` (44_scheduler.md R267). -/
def execTxStart (n : BitVec 16) (s : State) (P : Params := .plcphy) :
    Host.Outcome State Fault Refusal := blockCommand s (txStartBody n s P)

/-- `TX_STOP TXS` (44_scheduler.md R275): in a session the response is withheld, so no word stands in `rsp`. -/
def execTxStop (s : State) : Host.Outcome State Fault Refusal :=
  if s.halted ∨ s.txs.state = .idle then blockCommand s (.succeed s [])
  else .next { s with txs := { s.txs with stopReq := true }, stopWait := some .tx, rsp := [] }

/-- `TX_STATUS TXS` (44_scheduler.md R277). -/
def execTxStatus (s : State) : Host.Outcome State Fault Refusal := blockCommand s (.succeed s s.txs.statusWords)

/-- `RX_BIND RXS` (44_scheduler.md R263). -/
def execRxBind (unit : BitVec 16) (s : State) (P : Params := .plcphy) :
    Host.Outcome State Fault Refusal := blockCommand s (rxBindBody unit s P)

/-- `RX_START RXS` (44_scheduler.md R281). -/
def execRxStart (n : BitVec 16) (s : State) (P : Params := .plcphy) :
    Host.Outcome State Fault Refusal := blockCommand s (rxStartBody n s P)

/-- `RX_STOP RXS` (44_scheduler.md R289): in a session the response is withheld, so no word stands in `rsp`. -/
def execRxStop (s : State) : Host.Outcome State Fault Refusal :=
  if s.halted ∨ s.rxs.state = .idle then blockCommand s (.succeed s [])
  else .next { s with rxs := { s.rxs with stopReq := true }, stopWait := some .rx, rsp := [] }

/-- `RX_STATUS RXS` (44_scheduler.md R291). -/
def execRxStatus (s : State) : Host.Outcome State Fault Refusal := blockCommand s (.succeed s s.rxs.statusWords)

/-- `SYS_STATUS SYS` (60_exceptions.md R308): legal also when halted. -/
def execSysStatus (s : State) : Host.Outcome State Fault Refusal := .next (s.respond .ok 0 [s.sysStatusBits])

end Sys2Proof.Machine
end

