-- ==== Sys2Proof/Machine/Events.lean ====
section
/-! DEFINITION. The five words of the event port (30_encoding.md R102; 60_exceptions.md R310, R312): TRANSPORT's events
into PLCPHY's queues, and PLCPHY's requests as TRANSPORT takes them. TRANSPORT is outside PLCPHY, so a halt stops none of
them (log entries 6, 8). -/

namespace Sys2Proof.Machine

/-- A grant that names buffer `j` is over. -/
def Grant.endIf (j : Byte) : Option Grant → Option Grant
  | some g => if g.buf = j then none else some g
  | none => none

/-- `EV_TX_SENT`: the word joins the TX event queue (60_exceptions.md R312), and TRANSPORT is done with the buffer,
whether or not it has taken the request (70_reset_and_hazards.md R354 (1)). -/
def execEvTxSent (buf : Byte) (count : BitVec 16) (s : State) : Host.Outcome State Fault Refusal :=
  .next { s with txQueue := s.txQueue ++ [fieldsWord 0x80 buf count], txHas := endLoan buf s.txHas,
                 txGrant := Grant.endIf buf s.txGrant }

/-- `EV_RX_CAPTURED`: the word joins the RX event queue (60_exceptions.md R312), and TRANSPORT is done with the buffer,
whether or not it has taken the request (70_reset_and_hazards.md R354 (1)). -/
def execEvRxCaptured (buf : Byte) (count : BitVec 16) (s : State) : Host.Outcome State Fault Refusal :=
  .next { s with rxQueue := s.rxQueue ++ [fieldsWord 0x81 buf count], rxHas := endLoan buf s.rxHas,
                 rxGrant := Grant.endIf buf s.rxGrant }

/-- `REQ_TX_SEND`: TRANSPORT takes the word: it is to read `count` samples of the buffer, which it has had since PLCPHY
emitted the word (30_encoding.md R102, 44_scheduler.md R273). -/
def execReqTxSend (buf : Byte) (count : BitVec 16) (s : State) : Host.Outcome State Fault Refusal :=
  .next { s with txGrant := some ⟨buf, count⟩ }

/-- `REQ_RX_CAPTURE`: TRANSPORT takes the word: it is to write `count` samples of the buffer, which it has had since PLCPHY
emitted the word (30_encoding.md R102, 44_scheduler.md R285). -/
def execReqRxCapture (buf : Byte) (count : BitVec 16) (s : State) : Host.Outcome State Fault Refusal :=
  .next { s with rxGrant := some ⟨buf, count⟩ }

/-- `REQ_RX_ABORT`: the buffer is taken back (30_encoding.md R102, 44_scheduler.md R287); the count, 0 in every request
PLCPHY emits, says nothing. -/
def execReqRxAbort (buf : Byte) (_count : BitVec 16) (s : State) : Host.Outcome State Fault Refusal :=
  .next { s with rxGrant := Grant.endIf buf s.rxGrant }

end Sys2Proof.Machine
end

