-- ==== Sys2Proof/Machine/Dispatch.lean ====
section
/-! DEFINITION. The dispatch: one arm per instruction, each a call of its own meaning. -/

namespace Sys2Proof.Machine

def exec (i : Instr) (s : State) : Host.Outcome State Fault Refusal :=
  match i with
  | .createDecOok => Sys2Proof.Machine.execCreateDecOok s
  | .createDecPwm => Sys2Proof.Machine.execCreateDecPwm s
  | .createDecMorse => Sys2Proof.Machine.execCreateDecMorse s
  | .createDecRaw => Sys2Proof.Machine.execCreateDecRaw s
  | .createEncWave => Sys2Proof.Machine.execCreateEncWave s
  | .createEncWav => Sys2Proof.Machine.execCreateEncWav s
  | .createEncOok => Sys2Proof.Machine.execCreateEncOok s
  | .createEncPwm => Sys2Proof.Machine.execCreateEncPwm s
  | .createEncMorse => Sys2Proof.Machine.execCreateEncMorse s
  | .getAcceptedSettingsDecOok => Sys2Proof.Machine.execGetAcceptedSettingsDecOok s
  | .getAcceptedSettingsDecPwm => Sys2Proof.Machine.execGetAcceptedSettingsDecPwm s
  | .getAcceptedSettingsDecMorse => Sys2Proof.Machine.execGetAcceptedSettingsDecMorse s
  | .getAcceptedSettingsDecRaw => Sys2Proof.Machine.execGetAcceptedSettingsDecRaw s
  | .getAcceptedSettingsEncWave => Sys2Proof.Machine.execGetAcceptedSettingsEncWave s
  | .getAcceptedSettingsEncWav => Sys2Proof.Machine.execGetAcceptedSettingsEncWav s
  | .getAcceptedSettingsEncOok => Sys2Proof.Machine.execGetAcceptedSettingsEncOok s
  | .getAcceptedSettingsEncPwm => Sys2Proof.Machine.execGetAcceptedSettingsEncPwm s
  | .getAcceptedSettingsEncMorse => Sys2Proof.Machine.execGetAcceptedSettingsEncMorse s
  | .beginSettingsDecOok => Sys2Proof.Machine.execBeginSettingsDecOok s
  | .beginSettingsDecPwm => Sys2Proof.Machine.execBeginSettingsDecPwm s
  | .beginSettingsDecMorse => Sys2Proof.Machine.execBeginSettingsDecMorse s
  | .beginSettingsDecRaw => Sys2Proof.Machine.execBeginSettingsDecRaw s
  | .beginSettingsEncWave => Sys2Proof.Machine.execBeginSettingsEncWave s
  | .beginSettingsEncWav => Sys2Proof.Machine.execBeginSettingsEncWav s
  | .beginSettingsEncOok => Sys2Proof.Machine.execBeginSettingsEncOok s
  | .beginSettingsEncPwm => Sys2Proof.Machine.execBeginSettingsEncPwm s
  | .beginSettingsEncMorse => Sys2Proof.Machine.execBeginSettingsEncMorse s
  | .setSettingDecOok id value => Sys2Proof.Machine.execSetSettingDecOok id value s
  | .setSettingDecPwm id value => Sys2Proof.Machine.execSetSettingDecPwm id value s
  | .setSettingDecMorse id value => Sys2Proof.Machine.execSetSettingDecMorse id value s
  | .setSettingDecRaw id value => Sys2Proof.Machine.execSetSettingDecRaw id value s
  | .setSettingEncWave id value => Sys2Proof.Machine.execSetSettingEncWave id value s
  | .setSettingEncWav id value => Sys2Proof.Machine.execSetSettingEncWav id value s
  | .setSettingEncOok id value => Sys2Proof.Machine.execSetSettingEncOok id value s
  | .setSettingEncPwm id value => Sys2Proof.Machine.execSetSettingEncPwm id value s
  | .setSettingEncMorse id value => Sys2Proof.Machine.execSetSettingEncMorse id value s
  | .endSettingsDecOok => Sys2Proof.Machine.execEndSettingsDecOok s
  | .endSettingsDecPwm => Sys2Proof.Machine.execEndSettingsDecPwm s
  | .endSettingsDecMorse => Sys2Proof.Machine.execEndSettingsDecMorse s
  | .endSettingsDecRaw => Sys2Proof.Machine.execEndSettingsDecRaw s
  | .endSettingsEncWave => Sys2Proof.Machine.execEndSettingsEncWave s
  | .endSettingsEncWav => Sys2Proof.Machine.execEndSettingsEncWav s
  | .endSettingsEncOok => Sys2Proof.Machine.execEndSettingsEncOok s
  | .endSettingsEncPwm => Sys2Proof.Machine.execEndSettingsEncPwm s
  | .endSettingsEncMorse => Sys2Proof.Machine.execEndSettingsEncMorse s
  | .releaseDecOok => Sys2Proof.Machine.execReleaseDecOok s
  | .releaseDecPwm => Sys2Proof.Machine.execReleaseDecPwm s
  | .releaseDecMorse => Sys2Proof.Machine.execReleaseDecMorse s
  | .releaseDecRaw => Sys2Proof.Machine.execReleaseDecRaw s
  | .releaseEncWave => Sys2Proof.Machine.execReleaseEncWave s
  | .releaseEncWav => Sys2Proof.Machine.execReleaseEncWav s
  | .releaseEncOok => Sys2Proof.Machine.execReleaseEncOok s
  | .releaseEncPwm => Sys2Proof.Machine.execReleaseEncPwm s
  | .releaseEncMorse => Sys2Proof.Machine.execReleaseEncMorse s
  | .getStatusDecOok => Sys2Proof.Machine.execGetStatusDecOok s
  | .getStatusDecPwm => Sys2Proof.Machine.execGetStatusDecPwm s
  | .getStatusDecMorse => Sys2Proof.Machine.execGetStatusDecMorse s
  | .getStatusDecRaw => Sys2Proof.Machine.execGetStatusDecRaw s
  | .getStatusEncWave => Sys2Proof.Machine.execGetStatusEncWave s
  | .getStatusEncWav => Sys2Proof.Machine.execGetStatusEncWav s
  | .getStatusEncOok => Sys2Proof.Machine.execGetStatusEncOok s
  | .getStatusEncPwm => Sys2Proof.Machine.execGetStatusEncPwm s
  | .getStatusEncMorse => Sys2Proof.Machine.execGetStatusEncMorse s
  | .initializeDecOok n => Sys2Proof.Machine.execInitializeDecOok n s
  | .initializeDecPwm n => Sys2Proof.Machine.execInitializeDecPwm n s
  | .initializeDecMorse n => Sys2Proof.Machine.execInitializeDecMorse n s
  | .initializeDecRaw n => Sys2Proof.Machine.execInitializeDecRaw n s
  | .parseNextSamplesDecOok raw => Sys2Proof.Machine.execParseNextSamplesDecOok raw s
  | .parseNextSamplesDecPwm raw => Sys2Proof.Machine.execParseNextSamplesDecPwm raw s
  | .parseNextSamplesDecMorse raw => Sys2Proof.Machine.execParseNextSamplesDecMorse raw s
  | .parseNextSamplesDecRaw raw => Sys2Proof.Machine.execParseNextSamplesDecRaw raw s
  | .terminateDecOok => Sys2Proof.Machine.execTerminateDecOok s
  | .terminateDecPwm => Sys2Proof.Machine.execTerminateDecPwm s
  | .terminateDecMorse => Sys2Proof.Machine.execTerminateDecMorse s
  | .terminateDecRaw => Sys2Proof.Machine.execTerminateDecRaw s
  | .readDecodedDecOok m => Sys2Proof.Machine.execReadDecodedDecOok m s
  | .readDecodedDecPwm m => Sys2Proof.Machine.execReadDecodedDecPwm m s
  | .readDecodedDecMorse m => Sys2Proof.Machine.execReadDecodedDecMorse m s
  | .readDecodedDecRaw m => Sys2Proof.Machine.execReadDecodedDecRaw m s
  | .readCaptureDecOok m => Sys2Proof.Machine.execReadCaptureDecOok m s
  | .readCaptureDecPwm m => Sys2Proof.Machine.execReadCaptureDecPwm m s
  | .readCaptureDecMorse m => Sys2Proof.Machine.execReadCaptureDecMorse m s
  | .resetEncWave => Sys2Proof.Machine.execResetEncWave s
  | .resetEncWav => Sys2Proof.Machine.execResetEncWav s
  | .resetEncOok => Sys2Proof.Machine.execResetEncOok s
  | .resetEncPwm => Sys2Proof.Machine.execResetEncPwm s
  | .resetEncMorse => Sys2Proof.Machine.execResetEncMorse s
  | .prepareNextSamplesEncWave k => Sys2Proof.Machine.execPrepareNextSamplesEncWave k s
  | .prepareNextSamplesEncWav k => Sys2Proof.Machine.execPrepareNextSamplesEncWav k s
  | .prepareNextSamplesEncOok k => Sys2Proof.Machine.execPrepareNextSamplesEncOok k s
  | .prepareNextSamplesEncPwm k => Sys2Proof.Machine.execPrepareNextSamplesEncPwm k s
  | .prepareNextSamplesEncMorse k => Sys2Proof.Machine.execPrepareNextSamplesEncMorse k s
  | .pbLoad format channels bits data => Sys2Proof.Machine.execPbLoad format channels bits data s
  | .fltCreate n a b => Sys2Proof.Machine.execFltCreate n a b s
  | .fltSetDemod mode fw => Sys2Proof.Machine.execFltSetDemod mode fw s
  | .fltSetCapture count => Sys2Proof.Machine.execFltSetCapture count s
  | .fltProcessChunk offset raw => Sys2Proof.Machine.execFltProcessChunk offset raw s
  | .fltReadOutput => Sys2Proof.Machine.execFltReadOutput s
  | .fltReadCapture m => Sys2Proof.Machine.execFltReadCapture m s
  | .fltRelease => Sys2Proof.Machine.execFltRelease s
  | .txBind unit => Sys2Proof.Machine.execTxBind unit s
  | .txStart n => Sys2Proof.Machine.execTxStart n s
  | .txStop => Sys2Proof.Machine.execTxStop s
  | .txStatus => Sys2Proof.Machine.execTxStatus s
  | .rxBind unit => Sys2Proof.Machine.execRxBind unit s
  | .rxStart n => Sys2Proof.Machine.execRxStart n s
  | .rxStop => Sys2Proof.Machine.execRxStop s
  | .rxStatus => Sys2Proof.Machine.execRxStatus s
  | .sysStatus => Sys2Proof.Machine.execSysStatus s
  | .evTxSent buf count => Sys2Proof.Machine.execEvTxSent buf count s
  | .evRxCaptured buf count => Sys2Proof.Machine.execEvRxCaptured buf count s
  | .reqTxSend buf count => Sys2Proof.Machine.execReqTxSend buf count s
  | .reqRxCapture buf count => Sys2Proof.Machine.execReqRxCapture buf count s
  | .reqRxAbort buf count => Sys2Proof.Machine.execReqRxAbort buf count s

end Sys2Proof.Machine
end

