-- ==== Sys2Proof/Machine/Moves.lean ====
section
/-! DEFINITION. What each move of the agenda does (00_scope.md R12): HOST's transaction, the event port's two directions,
TRANSPORT's accesses to the pools, the level inputs and the reset input. Step.lean only chooses the move. Where a move runs
an instruction it runs `run`, the meanings for the parameters `P` of 00_scope.md R9: `exec`, for those of PLCPHY. -/

namespace Sys2Proof.Machine

/-! HOST. -/

/-- An illegal command word: no payload is consumed, and only the answer changes (30_encoding.md R100;
60_exceptions.md R307). -/
def illegalCommand (s : State) : State := if s.halted then s.answerHalted else s.respond .badCommand 0 []

/-- HOST's turn: a withheld stop ends if it can, and no other command is accepted before (44_scheduler.md R290);
otherwise one transaction of the command port, if all its words are there (30_encoding.md R90; log entry 2). -/
def hostStep (s : State) (run : Instr → State → Host.Outcome State Fault Refusal := exec) :
    Host.Outcome State Fault Refusal :=
  match s.stopWait with
  | some d => .next (completeStop d s)
  | none =>
    match decode s.cmdIn with
    | .instr i rest => run i { s with cmdIn := rest }
    | .illegal rest => .next (illegalCommand { s with cmdIn := rest })
    | .incomplete => .next s

/-! The event port. -/

/-- The code of a word TRANSPORT may send (60_exceptions.md R312). -/
def isEventCode (w : Word) : Bool := decide (w.code = 0x80) || decide (w.code = 0x81)

/-- TRANSPORT delivers its next word; a word with any other code is dropped (60_exceptions.md R312). -/
def eventStep (s : State) (run : Instr → State → Host.Outcome State Fault Refusal := exec) :
    Host.Outcome State Fault Refusal :=
  match s.evIn with
  | [] => .next s
  | w :: rest =>
    match if isEventCode w then decodeEvent w else none with
    | some i => run i { s with evIn := rest }
    | none => .next { s with evIn := rest }

/-- TRANSPORT takes the next request word (30_encoding.md R102). -/
def requestStep (s : State) (run : Instr → State → Host.Outcome State Fault Refusal := exec) :
    Host.Outcome State Fault Refusal :=
  match s.evOut with
  | [] => .next s
  | w :: rest =>
    match decodeEvent w with
    | some i => run i { s with evOut := rest }
    | none => .next { s with evOut := rest }

/-! TRANSPORT's accesses (20_memory.md R62; 70_reset_and_hazards.md R354; log entry 7). -/

/-- TRANSPORT has TX buffer `j` (70_reset_and_hazards.md R354 (1); log entry 6). -/
def State.txLent (s : State) (j : Nat) : Bool := decide (s.txHas.map (·.toNat) = some j)

/-- TRANSPORT has RX buffer `j` (70_reset_and_hazards.md R354 (1); log entry 6). -/
def State.rxLent (s : State) (j : Nat) : Bool := decide (s.rxHas.map (·.toNat) = some j)

/-- `BufRead` by TRANSPORT, of a buffer it has (`lent`) or has not: one it has reported complete is no longer its to touch,
although PLCPHY has not taken the event yet (20_memory.md R62; 70_reset_and_hazards.md R354 (1)). -/
def lineRead (pool : List PoolBuf) (n : Nat) (lent : Bool) (j i : Nat) : Except FatalCode (Option Sample) :=
  if j < pool.length ∧ lent = false then .error .ownership else bufRead pool n .transport j i

/-- `BufWrite` by TRANSPORT, of a buffer it has (`lent`) or has not (20_memory.md R62; 70_reset_and_hazards.md R354 (1)). -/
def lineWrite (pool : List PoolBuf) (n : Nat) (lent : Bool) (j i : Nat) (v : Sample) : Except FatalCode (List PoolBuf) :=
  if j < pool.length ∧ lent = false then .error .ownership else bufWrite pool n .transport j i v

/-- A sample TRANSPORT has read; one nobody has written has a free value (log entry 10). -/
def State.toLine (s : State) (j i : Nat) (v : Option Sample) : State :=
  { s with line := s.line ++ [v.getD (Config.unwrittenSample s.tick j i)] }

/-- TRANSPORT reads a sample of a TX buffer. -/
def transportRead (j i : Nat) (s : State) : State :=
  match lineRead s.txPool s.txs.n.toNat (s.txLent j) j i with
  | .error c => s.raiseFatal c
  | .ok v => s.toLine j i v

/-- TRANSPORT writes a sample of an RX buffer. -/
def transportWrite (j i : Nat) (v : Sample) (s : State) : State :=
  match lineWrite s.rxPool s.rxs.n.toNat (s.rxLent j) j i v with
  | .error c => s.raiseFatal c
  | .ok pool => { s with rxPool := pool }

/-- TRANSPORT writes a sample of a TX buffer, against 70_reset_and_hazards.md R354 (2). -/
def transportTxWrite (j i : Nat) (v : Sample) (s : State) : State :=
  match lineWrite s.txPool s.txs.n.toNat (s.txLent j) j i v with
  | .error c => s.raiseFatal c
  | .ok pool => { s with txPool := pool }

/-- TRANSPORT reads a sample of an RX buffer, against 70_reset_and_hazards.md R354 (2). -/
def transportRxRead (j i : Nat) (s : State) : State :=
  match lineRead s.rxPool s.rxs.n.toNat (s.rxLent j) j i with
  | .error c => s.raiseFatal c
  | .ok v => s.toLine j i v

/-! The moves. -/

/-- One turn of an agent or a timer. -/
def turnStep (t : Turn) (s : State) (P : Params := .plcphy)
    (run : Instr → State → Host.Outcome State Fault Refusal := exec) : Host.Outcome State Fault Refusal :=
  match t with
  | .host => hostStep s run
  | .txs => txsStep s P
  | .rxs => rxsStep s P
  | .captureTimeout => .next (captureTimeoutStep s)
  | .joinExpiry => joinExpiryStep s
  | .event => eventStep s run
  | .request => requestStep s run

/-- One move. -/
def moveStep (m : Move) (s : State) (P : Params := .plcphy)
    (run : Instr → State → Host.Outcome State Fault Refusal := exec) : Host.Outcome State Fault Refusal :=
  match m with
  | .turn t => turnStep t s P run
  | .txRead j i => .next (transportRead j i s)
  | .rxWrite j i v => .next (transportWrite j i v s)
  | .txWrite j i v => .next (transportTxWrite j i v s)
  | .rxRead j i => .next (transportRxRead j i s)
  | .txBusy b => .next { s with txBusy := b }
  | .rxBusy b => .next { s with rxBusy := b }
  | .rst => .next (s.resetInput P)

/-- The next move: the head of the agenda; where the agenda is empty, a turn nobody can foresee (log entry 1). -/
def nextMove (s : State) : Move :=
  match s.agenda with
  | m :: _ => m
  | [] => .turn (Config.arbiter s.tick)

/-- The move is over: it leaves the agenda, and the step count goes on. -/
def endMove (s t : State) : State := { t with agenda := s.agenda.tail, tick := s.tick + 1 }

/-! Placing an instruction where it is fetched. -/

/-- A word of the event port as TRANSPORT's next word. -/
def placeEvent (w : Word) (s : State) : State := { s with evIn := w :: s.evIn, agenda := .turn .event :: s.agenda }

/-- A request word as PLCPHY's next word. -/
def placeRequest (w : Word) (s : State) : State := { s with evOut := w :: s.evOut, agenda := .turn .request :: s.agenda }

/-- A transaction as HOST's next one. -/
def placeCommand (ws : List Word) (s : State) : State :=
  { s with cmdIn := ws ++ s.cmdIn, stopWait := none, agenda := .turn .host :: s.agenda }

/-- The instruction of a table row in its place: an event or a request word on the event port, any other on the command
port with its payload words (30_encoding.md R90, R102; log entry 2). -/
def placeFetchWord (nbits w : Nat) (s : State) : State :=
  let first : Word := BitVec.ofNat 32 w
  if isEventCode first then placeEvent first s
  else if (decodeEvent first).isSome then placeRequest first s
  else placeCommand (withZeroPayload (tableWords nbits w)) s

end Sys2Proof.Machine
end

