-- ==== Sys2Proof/Machine/Step.lean ====
section
/-! DEFINITION. The step: one move of one agent, and its end. -/

namespace Sys2Proof.Machine

/-- One step of the system (00_scope.md R12, 44_scheduler.md R260): the next move, then on to the one after it. -/
def step (s : State) : Host.Outcome State Fault Refusal :=
  match moveStep (nextMove s) s with
  | .next t => .next (endMove s t)
  | .fault r => .fault r
  | .refused r => .refused r

/-- `s` with the instruction of an opcode-table row where `step` fetches its next one (log entry 2). -/
def State.withFetchWord (s : State) (nbits w : Nat) : State := placeFetchWord nbits w s

end Sys2Proof.Machine
end

