-- ==== Sys2Proof/Safety.lean ====
section
/-! DEFINITION. The terms statements are made in: the instructions by what they ask of which unit, the state cut into
the registers of one unit, the system's registers and the ports, the invariants the spec states of every reachable state
(20_memory.md R64, R65; 44_scheduler.md R276, R292), and what a safe step is. -/

namespace Sys2Proof

/-! Instructions by what they ask of which unit. -/

/-- The commands of a plugin unit: the rows of the lifecycle table (41_lifecycle_settings.md R141). -/
inductive PluginOp where
  | create | accepted | beginSet | setSetting | endSet | init | parse | terminate | readDecoded | readCapture | reset
  | prepare | pbLoad | release | getStatus
deriving DecidableEq, Repr

/-- What an instruction is: a command on a plugin unit, a command on the filter, a scheduler or the system, or a word of
the event port (30_encoding.md R93, R102). -/
inductive InstrView where
  | plugin (op : PluginOp) (u : PluginUnit)
  | system
  | event
deriving DecidableEq, Repr

/-- The view of an instruction. -/
def Instr.view (i : Instr) : InstrView :=
  match i with
  | .createDecOok => .plugin .create (.dec .ook)
  | .createDecPwm => .plugin .create (.dec .pwm)
  | .createDecMorse => .plugin .create (.dec .morse)
  | .createDecRaw => .plugin .create (.dec .raw)
  | .createEncWave => .plugin .create (.enc .wave)
  | .createEncWav => .plugin .create (.enc .wav)
  | .createEncOok => .plugin .create (.enc .ook)
  | .createEncPwm => .plugin .create (.enc .pwm)
  | .createEncMorse => .plugin .create (.enc .morse)
  | .getAcceptedSettingsDecOok => .plugin .accepted (.dec .ook)
  | .getAcceptedSettingsDecPwm => .plugin .accepted (.dec .pwm)
  | .getAcceptedSettingsDecMorse => .plugin .accepted (.dec .morse)
  | .getAcceptedSettingsDecRaw => .plugin .accepted (.dec .raw)
  | .getAcceptedSettingsEncWave => .plugin .accepted (.enc .wave)
  | .getAcceptedSettingsEncWav => .plugin .accepted (.enc .wav)
  | .getAcceptedSettingsEncOok => .plugin .accepted (.enc .ook)
  | .getAcceptedSettingsEncPwm => .plugin .accepted (.enc .pwm)
  | .getAcceptedSettingsEncMorse => .plugin .accepted (.enc .morse)
  | .beginSettingsDecOok => .plugin .beginSet (.dec .ook)
  | .beginSettingsDecPwm => .plugin .beginSet (.dec .pwm)
  | .beginSettingsDecMorse => .plugin .beginSet (.dec .morse)
  | .beginSettingsDecRaw => .plugin .beginSet (.dec .raw)
  | .beginSettingsEncWave => .plugin .beginSet (.enc .wave)
  | .beginSettingsEncWav => .plugin .beginSet (.enc .wav)
  | .beginSettingsEncOok => .plugin .beginSet (.enc .ook)
  | .beginSettingsEncPwm => .plugin .beginSet (.enc .pwm)
  | .beginSettingsEncMorse => .plugin .beginSet (.enc .morse)
  | .setSettingDecOok _ _ => .plugin .setSetting (.dec .ook)
  | .setSettingDecPwm _ _ => .plugin .setSetting (.dec .pwm)
  | .setSettingDecMorse _ _ => .plugin .setSetting (.dec .morse)
  | .setSettingDecRaw _ _ => .plugin .setSetting (.dec .raw)
  | .setSettingEncWave _ _ => .plugin .setSetting (.enc .wave)
  | .setSettingEncWav _ _ => .plugin .setSetting (.enc .wav)
  | .setSettingEncOok _ _ => .plugin .setSetting (.enc .ook)
  | .setSettingEncPwm _ _ => .plugin .setSetting (.enc .pwm)
  | .setSettingEncMorse _ _ => .plugin .setSetting (.enc .morse)
  | .endSettingsDecOok => .plugin .endSet (.dec .ook)
  | .endSettingsDecPwm => .plugin .endSet (.dec .pwm)
  | .endSettingsDecMorse => .plugin .endSet (.dec .morse)
  | .endSettingsDecRaw => .plugin .endSet (.dec .raw)
  | .endSettingsEncWave => .plugin .endSet (.enc .wave)
  | .endSettingsEncWav => .plugin .endSet (.enc .wav)
  | .endSettingsEncOok => .plugin .endSet (.enc .ook)
  | .endSettingsEncPwm => .plugin .endSet (.enc .pwm)
  | .endSettingsEncMorse => .plugin .endSet (.enc .morse)
  | .releaseDecOok => .plugin .release (.dec .ook)
  | .releaseDecPwm => .plugin .release (.dec .pwm)
  | .releaseDecMorse => .plugin .release (.dec .morse)
  | .releaseDecRaw => .plugin .release (.dec .raw)
  | .releaseEncWave => .plugin .release (.enc .wave)
  | .releaseEncWav => .plugin .release (.enc .wav)
  | .releaseEncOok => .plugin .release (.enc .ook)
  | .releaseEncPwm => .plugin .release (.enc .pwm)
  | .releaseEncMorse => .plugin .release (.enc .morse)
  | .getStatusDecOok => .plugin .getStatus (.dec .ook)
  | .getStatusDecPwm => .plugin .getStatus (.dec .pwm)
  | .getStatusDecMorse => .plugin .getStatus (.dec .morse)
  | .getStatusDecRaw => .plugin .getStatus (.dec .raw)
  | .getStatusEncWave => .plugin .getStatus (.enc .wave)
  | .getStatusEncWav => .plugin .getStatus (.enc .wav)
  | .getStatusEncOok => .plugin .getStatus (.enc .ook)
  | .getStatusEncPwm => .plugin .getStatus (.enc .pwm)
  | .getStatusEncMorse => .plugin .getStatus (.enc .morse)
  | .initializeDecOok _ => .plugin .init (.dec .ook)
  | .initializeDecPwm _ => .plugin .init (.dec .pwm)
  | .initializeDecMorse _ => .plugin .init (.dec .morse)
  | .initializeDecRaw _ => .plugin .init (.dec .raw)
  | .parseNextSamplesDecOok _ => .plugin .parse (.dec .ook)
  | .parseNextSamplesDecPwm _ => .plugin .parse (.dec .pwm)
  | .parseNextSamplesDecMorse _ => .plugin .parse (.dec .morse)
  | .parseNextSamplesDecRaw _ => .plugin .parse (.dec .raw)
  | .terminateDecOok => .plugin .terminate (.dec .ook)
  | .terminateDecPwm => .plugin .terminate (.dec .pwm)
  | .terminateDecMorse => .plugin .terminate (.dec .morse)
  | .terminateDecRaw => .plugin .terminate (.dec .raw)
  | .readDecodedDecOok _ => .plugin .readDecoded (.dec .ook)
  | .readDecodedDecPwm _ => .plugin .readDecoded (.dec .pwm)
  | .readDecodedDecMorse _ => .plugin .readDecoded (.dec .morse)
  | .readDecodedDecRaw _ => .plugin .readDecoded (.dec .raw)
  | .readCaptureDecOok _ => .plugin .readCapture (.dec .ook)
  | .readCaptureDecPwm _ => .plugin .readCapture (.dec .pwm)
  | .readCaptureDecMorse _ => .plugin .readCapture (.dec .morse)
  | .resetEncWave => .plugin .reset (.enc .wave)
  | .resetEncWav => .plugin .reset (.enc .wav)
  | .resetEncOok => .plugin .reset (.enc .ook)
  | .resetEncPwm => .plugin .reset (.enc .pwm)
  | .resetEncMorse => .plugin .reset (.enc .morse)
  | .prepareNextSamplesEncWave _ => .plugin .prepare (.enc .wave)
  | .prepareNextSamplesEncWav _ => .plugin .prepare (.enc .wav)
  | .prepareNextSamplesEncOok _ => .plugin .prepare (.enc .ook)
  | .prepareNextSamplesEncPwm _ => .plugin .prepare (.enc .pwm)
  | .prepareNextSamplesEncMorse _ => .plugin .prepare (.enc .morse)
  | .pbLoad _ _ _ _ => .plugin .pbLoad (.enc .wav)
  | .fltCreate _ _ _ => .system
  | .fltSetDemod _ _ => .system
  | .fltSetCapture _ => .system
  | .fltProcessChunk _ _ => .system
  | .fltReadOutput => .system
  | .fltReadCapture _ => .system
  | .fltRelease => .system
  | .txBind _ => .system
  | .txStart _ => .system
  | .txStop => .system
  | .txStatus => .system
  | .rxBind _ => .system
  | .rxStart _ => .system
  | .rxStop => .system
  | .rxStatus => .system
  | .sysStatus => .system
  | .evTxSent _ _ => .event
  | .evRxCaptured _ _ => .event
  | .reqTxSend _ _ => .event
  | .reqRxCapture _ _ => .event
  | .reqRxAbort _ _ => .event

/-- An instruction HOST sends on the command port (30_encoding.md R90). -/
def Instr.isCommand (i : Instr) : Bool := decide (i.view ≠ .event)

/-- The commands that are not refused while the unit is busy (41_lifecycle_settings.md R142). -/
def PluginOp.whileBusy : PluginOp → Bool
  | .getStatus => true
  | .accepted => true
  | .readDecoded => true
  | .readCapture => true
  | .create => false
  | .beginSet => false
  | .setSetting => false
  | .endSet => false
  | .init => false
  | .parse => false
  | .terminate => false
  | .reset => false
  | .prepare => false
  | .pbLoad => false
  | .release => false

/-- The lifecycle states in which the table of 41_lifecycle_settings.md R141 does not answer `E_BAD_STATE`. -/
def PluginOp.states : PluginOp → PluginUnit → List Machine.Lc
  | .create, _ => [.absent]
  | .accepted, _ => [.idle, .config, .active]
  | .beginSet, .dec _ => [.idle]
  | .beginSet, .enc _ => [.idle, .active]
  | .setSetting, _ => [.config]
  | .endSet, _ => [.config]
  | .init, _ => [.idle]
  | .parse, _ => [.active]
  | .terminate, _ => [.active]
  | .readDecoded, _ => [.idle, .config, .active]
  | .readCapture, _ => [.active]
  | .reset, _ => [.idle, .active]
  | .prepare, _ => [.active]
  | .pbLoad, _ => [.idle, .config]
  | .release, _ => [.idle, .config, .active]
  | .getStatus, _ => [.absent, .idle, .config, .active]

/-- `CREATE` of a unit. -/
def Instr.create : PluginUnit → Instr
  | .dec .ook => .createDecOok
  | .dec .pwm => .createDecPwm
  | .dec .morse => .createDecMorse
  | .dec .raw => .createDecRaw
  | .enc .wave => .createEncWave
  | .enc .wav => .createEncWav
  | .enc .ook => .createEncOok
  | .enc .pwm => .createEncPwm
  | .enc .morse => .createEncMorse

/-- `GET_ACCEPTED_SETTINGS` of a unit. -/
def Instr.acceptedSettings : PluginUnit → Instr
  | .dec .ook => .getAcceptedSettingsDecOok
  | .dec .pwm => .getAcceptedSettingsDecPwm
  | .dec .morse => .getAcceptedSettingsDecMorse
  | .dec .raw => .getAcceptedSettingsDecRaw
  | .enc .wave => .getAcceptedSettingsEncWave
  | .enc .wav => .getAcceptedSettingsEncWav
  | .enc .ook => .getAcceptedSettingsEncOok
  | .enc .pwm => .getAcceptedSettingsEncPwm
  | .enc .morse => .getAcceptedSettingsEncMorse

/-- `BEGIN_SETTINGS` of a unit. -/
def Instr.beginSettings : PluginUnit → Instr
  | .dec .ook => .beginSettingsDecOok
  | .dec .pwm => .beginSettingsDecPwm
  | .dec .morse => .beginSettingsDecMorse
  | .dec .raw => .beginSettingsDecRaw
  | .enc .wave => .beginSettingsEncWave
  | .enc .wav => .beginSettingsEncWav
  | .enc .ook => .beginSettingsEncOok
  | .enc .pwm => .beginSettingsEncPwm
  | .enc .morse => .beginSettingsEncMorse

/-- `SET_SETTING` of a unit. -/
def Instr.setSetting : PluginUnit → BitVec 16 → SettingArg → Instr
  | .dec .ook, id, v => .setSettingDecOok id v
  | .dec .pwm, id, v => .setSettingDecPwm id v
  | .dec .morse, id, v => .setSettingDecMorse id v
  | .dec .raw, id, v => .setSettingDecRaw id v
  | .enc .wave, id, v => .setSettingEncWave id v
  | .enc .wav, id, v => .setSettingEncWav id v
  | .enc .ook, id, v => .setSettingEncOok id v
  | .enc .pwm, id, v => .setSettingEncPwm id v
  | .enc .morse, id, v => .setSettingEncMorse id v

/-- `END_SETTINGS` of a unit. -/
def Instr.endSettings : PluginUnit → Instr
  | .dec .ook => .endSettingsDecOok
  | .dec .pwm => .endSettingsDecPwm
  | .dec .morse => .endSettingsDecMorse
  | .dec .raw => .endSettingsDecRaw
  | .enc .wave => .endSettingsEncWave
  | .enc .wav => .endSettingsEncWav
  | .enc .ook => .endSettingsEncOok
  | .enc .pwm => .endSettingsEncPwm
  | .enc .morse => .endSettingsEncMorse

/-- `RELEASE` of a unit. -/
def Instr.release : PluginUnit → Instr
  | .dec .ook => .releaseDecOok
  | .dec .pwm => .releaseDecPwm
  | .dec .morse => .releaseDecMorse
  | .dec .raw => .releaseDecRaw
  | .enc .wave => .releaseEncWave
  | .enc .wav => .releaseEncWav
  | .enc .ook => .releaseEncOok
  | .enc .pwm => .releaseEncPwm
  | .enc .morse => .releaseEncMorse

/-- `GET_STATUS` of a unit. -/
def Instr.getStatus : PluginUnit → Instr
  | .dec .ook => .getStatusDecOok
  | .dec .pwm => .getStatusDecPwm
  | .dec .morse => .getStatusDecMorse
  | .dec .raw => .getStatusDecRaw
  | .enc .wave => .getStatusEncWave
  | .enc .wav => .getStatusEncWav
  | .enc .ook => .getStatusEncOok
  | .enc .pwm => .getStatusEncPwm
  | .enc .morse => .getStatusEncMorse

/-- `INITIALIZE` of a decoder. -/
def Instr.start : DecUnit → BitVec 16 → Instr
  | .ook, n => .initializeDecOok n
  | .pwm, n => .initializeDecPwm n
  | .morse, n => .initializeDecMorse n
  | .raw, n => .initializeDecRaw n

/-- `PARSE_NEXT_SAMPLES` of a decoder. -/
def Instr.parse : DecUnit → List Sample → Instr
  | .ook, raw => .parseNextSamplesDecOok raw
  | .pwm, raw => .parseNextSamplesDecPwm raw
  | .morse, raw => .parseNextSamplesDecMorse raw
  | .raw, raw => .parseNextSamplesDecRaw raw

/-- `TERMINATE` of a decoder. -/
def Instr.terminate : DecUnit → Instr
  | .ook => .terminateDecOok
  | .pwm => .terminateDecPwm
  | .morse => .terminateDecMorse
  | .raw => .terminateDecRaw

/-- `READ_DECODED` of a decoder. -/
def Instr.readDecoded : DecUnit → BitVec 16 → Instr
  | .ook, m => .readDecodedDecOok m
  | .pwm, m => .readDecodedDecPwm m
  | .morse, m => .readDecodedDecMorse m
  | .raw, m => .readDecodedDecRaw m

/-- `RESET` of an encoder. -/
def Instr.reset : EncUnit → Instr
  | .wave => .resetEncWave
  | .wav => .resetEncWav
  | .ook => .resetEncOok
  | .pwm => .resetEncPwm
  | .morse => .resetEncMorse

/-- `PREPARE_NEXT_SAMPLES` of an encoder. -/
def Instr.prepare : EncUnit → BitVec 16 → Instr
  | .wave, k => .prepareNextSamplesEncWave k
  | .wav, k => .prepareNextSamplesEncWav k
  | .ook, k => .prepareNextSamplesEncOok k
  | .pwm, k => .prepareNextSamplesEncPwm k
  | .morse, k => .prepareNextSamplesEncMorse k

/-- The pairs of opcode and unit number that 30_encoding.md R93 defines. -/
def definedPair (op unit : Nat) : Bool :=
  if 0x01 ≤ op ∧ op ≤ 0x07 then (decide (1 ≤ unit) && decide (unit ≤ 4)) || (decide (8 ≤ unit) && decide (unit ≤ 12))
  else if 0x10 ≤ op ∧ op ≤ 0x13 then decide (1 ≤ unit) && decide (unit ≤ 4)
  else if op = 0x14 then decide (1 ≤ unit) && decide (unit ≤ 3)
  else if op = 0x18 ∨ op = 0x19 then decide (8 ≤ unit) && decide (unit ≤ 12)
  else if op = 0x1A then decide (unit = 9)
  else if 0x20 ≤ op ∧ op ≤ 0x26 then decide (unit = 0)
  else if 0x30 ≤ op ∧ op ≤ 0x33 then decide (unit = 16)
  else if 0x38 ≤ op ∧ op ≤ 0x3B then decide (unit = 17)
  else if op = 0x3F then decide (unit = 255)
  else false

namespace Machine

/-! The state in parts: the nine plugin units, the rest of PLCPHY, and the ports. -/

/-- The registers of one plugin unit. -/
inductive UnitRegs where
  | decOok (d : DecOok)
  | decPwm (d : DecPwm)
  | decMorse (d : DecMorse)
  | decRaw (d : DecRaw)
  | encWave (e : EncWave)
  | encWav (e : EncWav)
  | encSeq (e : EncSeq)
deriving DecidableEq, Repr

/-- A bit-stream encoder with its plugin and derived registers as after reset (10_state.md R34). -/
def EncSeq.working (u : EncSeq) (e : EncUnit) : EncSeq :=
  { EncSeq.reset e with segIdx := u.segIdx, acc := u.acc, curOn := u.curOn, done := u.done, phase := u.phase }

/-- The registers of a plugin unit. -/
def State.regs (s : State) : PluginUnit → UnitRegs
  | .dec .ook => .decOok s.decOok
  | .dec .pwm => .decPwm s.decPwm
  | .dec .morse => .decMorse s.decMorse
  | .dec .raw => .decRaw s.decRaw
  | .enc .wave => .encWave s.encWave
  | .enc .wav => .encWav s.encWav
  | .enc .ook => .encSeq s.encOok
  | .enc .pwm => .encSeq s.encPwm
  | .enc .morse => .encSeq s.encMorse

/-- Everything of PLCPHY but its plugin units: halt, filter, schedulers, pools, playback memory, event queues, a withheld
stop, level inputs (10_state.md R20). -/
structure SystemRegs where
  halted : Bool
  fatalCode : BitVec 8
  flt : Flt
  txs : Txs
  rxs : Rxs
  txPool : List PoolBuf
  txFilled : List Bool
  rxPool : List PoolBuf
  pbm : List Host.Cell
  txQueue : List Word
  rxQueue : List Word
  stopWait : Option Dir
  txBusy : Bool
  rxBusy : Bool
deriving DecidableEq, Repr

/-- Everything of PLCPHY but its plugin units. -/
def State.system (s : State) : SystemRegs :=
  { halted := s.halted, fatalCode := s.fatalCode, flt := s.flt, txs := s.txs, rxs := s.rxs, txPool := s.txPool,
    txFilled := s.txFilled, rxPool := s.rxPool, pbm := s.pbm, txQueue := s.txQueue, rxQueue := s.rxQueue,
    stopWait := s.stopWait, txBusy := s.txBusy, rxBusy := s.rxBusy }

/-- The model's own fields but `rsp`: what waits on the ports, TRANSPORT's side, and the agenda. -/
structure Ports where
  cmdIn : List Word
  evIn : List Word
  evOut : List Word
  txHas : Option Byte
  rxHas : Option Byte
  txGrant : Option Grant
  rxGrant : Option Grant
  line : List Sample
  agenda : List Move
  tick : Nat
deriving DecidableEq, Repr

/-- The model's own fields but `rsp`. -/
def State.ports (s : State) : Ports :=
  { cmdIn := s.cmdIn, evIn := s.evIn, evOut := s.evOut, txHas := s.txHas, rxHas := s.rxHas, txGrant := s.txGrant,
    rxGrant := s.rxGrant, line := s.line, agenda := s.agenda, tick := s.tick }

/-- Between `s` and `t` at most unit `u` and the response have changed. -/
structure OnlyUnit (u : PluginUnit) (s t : State) : Prop where
  others : ∀ v, v ≠ u → t.regs v = s.regs v
  system : t.system = s.system
  ports : t.ports = s.ports

/-- Between `s` and `t` at most the system's registers and the response have changed. -/
structure OnlySystem (s t : State) : Prop where
  units : ∀ v, t.regs v = s.regs v
  ports : t.ports = s.ports

/-- The registers of a unit but the plugin registers and what `END_SETTINGS` derives: the filter, the stream, the
playback descriptor, the working registers. Plugin and derived registers read as after reset. -/
def State.working (s : State) : PluginUnit → UnitRegs
  | .dec .ook =>
    .decOok { core := { s.decOok.core with plug := Plug.reset (.dec .ook), der := DecDerived.reset },
              ook := { s.decOok.ook with n75 := 0, bpd := 0, dpf := 0 } }
  | .dec .pwm =>
    .decPwm { core := { s.decPwm.core with plug := Plug.reset (.dec .pwm), der := DecDerived.reset },
              pwm := { s.decPwm.pwm with confirm := 0 } }
  | .dec .morse =>
    .decMorse { core := { s.decMorse.core with plug := Plug.reset (.dec .morse), der := DecDerived.reset },
                morse := { s.decMorse.morse with tDot := 0, tDash := 0, tChar := 0, tWord := 0 } }
  | .dec .raw => .decRaw { s.decRaw with plug := Plug.reset (.dec .raw) }
  | .enc .wave =>
    .encWave { EncWave.reset with
      phase := s.encWave.phase, sweepIter := s.encWave.sweepIter, sweepN := s.encWave.sweepN }
  | .enc .wav =>
    .encWav { s.encWav with plug := Plug.reset (.enc .wav), pbCount := 0, lvl0 := 0, rep := false }
  | .enc .ook => .encSeq (s.encOok.working .ook)
  | .enc .pwm => .encSeq (s.encPwm.working .pwm)
  | .enc .morse => .encSeq (s.encMorse.working .morse)

/-! Admission of a command on a plugin unit (41_lifecycle_settings.md R142). -/

/-- PLCPHY is not halted, the unit is not busy, and its `lc` is the one given. -/
structure Admits (s : State) (u : PluginUnit) (lc : Lc) : Prop where
  running : s.halted = false
  free : s.busy u = false
  state : (s.plug u).lc = lc

/-! What the rules compute, as statements say it. -/

/-- The part that DEC_OOK, DEC_PWM and DEC_MORSE have in common (10_state.md R29). -/
def State.decCore (s : State) : DecUnit → Option DecCore
  | .ook => some s.decOok.core
  | .pwm => some s.decPwm.core
  | .morse => some s.decMorse.core
  | .raw => none

/-- The derived registers that the settings `p` give (42_decoders.md R171). -/
def DecDerived.ofSettings (p : Plug) : DecDerived :=
  { spsNum := BitVec.ofNat 64 (p.num 0 * p.num 1),
    thr := Num.ofInt (p.num 3),
    off := BitVec.ofNat 16 (p.num 2),
    dmode := if p.num 4 = 1 then .abs else if p.num 4 = 2 then .cos else .none,
    dfw := BitVec.ofNat 32 (p.num 5 * 2 ^ 32 / p.num 0),
    preset := p.num 6,
    capn := BitVec.ofNat 32 (p.num 10) }

/-- A number of samples per symbol that is viable: at least one and at most 2^31 - 1 (42_decoders.md R171,
43_encoders.md R219). -/
def Plug.viable (p : Plug) : Prop :=
  1000000 ≤ p.num 0 * p.num 1 ∧ p.num 0 * p.num 1 / 1000000 ≤ 2147483647

/-- The plugin registers after a successful `END_SETTINGS` (41_lifecycle_settings.md R147). -/
def Plug.configured (p : Plug) : Plug := { p with lc := .idle, ready := true, errMsg := 0 }

/-- The plugin registers after an `END_SETTINGS` that answers `E_CONFIG` with message `m` (41_lifecycle_settings.md
R147, 60_exceptions.md R302). -/
def Plug.misconfigured (p : Plug) (m : BitVec 8) : Plug :=
  { p with lc := .idle, ready := false, errMsg := m, errStatus := 7 }

/-- A filter as a decoder's `INITIALIZE` makes it (42_decoders.md R175; 40_filter.md R121 to R123). -/
def Flt.ofDerived (d : DecDerived) (n : BitVec 16) : Flt :=
  let preset := presetAt d.preset
  let order := max preset.a.length preset.b.length - 1
  { allocated := true, n := n, a := preset.a, b := preset.b, p := order,
    xb := List.replicate (order + n.toNat) (Num.ofInt 0), yb := List.replicate (order + n.toNat) (Num.ofInt 0),
    valid := false, demod := d.dmode, fw := d.dfw, phase := 0, capLen := d.capn.toNat, capRem := d.capn.toNat, cap := [] }

/-- Consecutive chunks through one filter: the filter after them and its outputs in order (40_filter.md R129). -/
def Flt.processChunks (offset : Sample) : List (List Sample) → Flt → Except FatalCode (Flt × List REAL)
  | [], f => .ok (f, [])
  | raw :: raws, f =>
    match f.processChunk raw offset with
    | .error c => .error c
    | .ok g =>
      match Flt.processChunks offset raws g with
      | .error c => .error c
      | .ok (h, ys) => .ok (h, g.output ++ ys)

/-- A bit-stream encoder `n` samples on. -/
def EncSeq.after : Nat → EncSeq → EncSeq
  | 0, u => u
  | n + 1, u => EncSeq.after n u.sample.2

/-- The playback encoder `n` samples on. -/
def EncWav.after (pbm : List Host.Cell) : Nat → EncWav → EncWav
  | 0, u => u
  | n + 1, u => EncWav.after pbm n (u.sample pbm).2

/-- `T_j`: the magnified time at which segment `j` begins (43_encoders.md R236). -/
def segmentStart (segs : List Segment) (sps j : Nat) : Nat := ((segs.take j).map (fun g => g.d * sps)).sum

/-- Two OOK decoders that behave alike from here on: they differ at most in a `pos_mag` that is stale, outside DATA. -/
def OokRegs.Alike (r q : OokRegs) : Prop :=
  { r with posMag := q.posMag } = q ∧ (q.phase = .data → r.posMag = q.posMag)

/-- An OOK decoder as `END_SETTINGS` and `INITIALIZE` leave it and its own steps keep it (42_decoders.md R173, R184). -/
structure OokRegs.Consistent (r : OokRegs) (sps : Nat) : Prop where
  rate : Config.mag ≤ sps
  limit : sps / Config.mag ≤ 2147483647
  start : r.n75.toNat = max 1 (3 * sps / (4 * Config.mag))
  cursor : r.phase = .data → 0 ≤ r.posMag

/-! Invariants. -/

/-- Every memory is in its canonical form: the pools, the playback memory and the four capture memories
(20_memory.md R60). -/
structure MemoriesCanonical (s : State) : Prop where
  tx : ∀ b ∈ s.txPool, Memory.wf b.samples
  rx : ∀ b ∈ s.rxPool, Memory.wf b.samples
  pbm : Memory.wf s.pbm
  flt : Memory.wf s.flt.cap
  ook : Memory.wf s.decOok.core.flt.cap
  pwm : Memory.wf s.decPwm.core.flt.cap
  morse : Memory.wf s.decMorse.core.flt.cap

/-- The owners of a pool of `size` buffers of which TRANSPORT has `held`. -/
def owners (size : Nat) (held : Option Nat) : List Owner :=
  (List.range size).map (fun j => if held = some j then .transport else .sched)

/-- The invariants of the TX pool (20_memory.md R64; 44_scheduler.md R276): TRANSPORT owns the buffer in flight and no
other, the buffer to fill is never the one in flight, and an idle TXS owns every buffer and has filled none. -/
structure TxPoolInv (s : State) : Prop where
  owner : s.txPool.map (·.owner) = owners Config.txPool s.txs.inflight
  filledSize : s.txFilled.length = Config.txPool
  fillIdx : s.txs.fillIdx < Config.txPool
  inflight : ∀ j, s.txs.inflight = some j → j < Config.txPool
  idle : s.txs.state = .idle → s.txs.inflight = none ∧ s.txFilled = List.replicate Config.txPool false
  starting : s.txs.state = .preloading ∨ s.txs.state = .armed → s.txs.inflight = none
  running : s.txs.state = .running → s.txs.inflight ≠ some s.txs.fillIdx
  filled : s.txs.state = .running → s.txs.phase = .pace ∨ s.txs.phase = .wait ∨ s.txs.phase = .hand →
    s.txFilled.getD s.txs.fillIdx false = true
  hand : s.txs.state = .running → s.txs.phase = .hand → s.txs.inflight = none
  session : s.txs.state ≠ .idle → s.txs.enc ≠ none ∧ s.txs.n ≠ 0

/-- The invariants of the RX pool (20_memory.md R65; 44_scheduler.md R292), for `RX_OVERLAP = false`: TRANSPORT owns the
armed buffer and no other, the captured buffers not dispatched are those from `rd_idx` to `wr_idx`, and a buffer is armed
in WAIT only, pending in DISPATCH only. -/
structure RxPoolInv (s : State) : Prop where
  owner : s.rxPool.map (·.owner) = owners Config.rxPool s.rxs.armedBuf
  wrIdx : s.rxs.wrIdx < Config.rxPool
  pending : s.rxs.wrIdx = if s.rxs.pending = 0 then s.rxs.rdIdx else nextBuf Config.rxPool s.rxs.rdIdx
  rdIdx : s.rxs.rdIdx < Config.rxPool
  running : s.rxs.state = .running →
    s.rxs.armedBuf = (if s.rxs.phase = .wait then some s.rxs.wrIdx else none) ∧
      s.rxs.pending = (if s.rxs.phase = .dispatch then 1 else 0)
  quiet : s.rxs.state ≠ .running → s.rxs.armedBuf = none ∧ s.rxs.pending = 0
  session : s.rxs.state ≠ .idle → s.rxs.dec ≠ none ∧ s.rxs.n ≠ 0

/-- Bindings and sessions agree (10_state.md R25; 44_scheduler.md R262, R263, R267, R281, R294): a unit's `bound` names
the scheduler that has it, an absent unit is unbound, and a session's unit is ACTIVE with the session's chunk size. -/
structure SessionInv (s : State) : Prop where
  txBound : ∀ e, (s.plug (.enc e)).bound = if s.txs.enc = some e then .tx else .unbound
  rxBound : ∀ d, (s.plug (.dec d)).bound = if s.rxs.dec = some d then .rx else .unbound
  absent : ∀ u, (s.plug u).lc = .absent → (s.plug u).bound = .unbound
  tx : s.txs.state ≠ .idle → ∃ e, s.txs.enc = some e ∧ (s.plug (.enc e)).lc = .active
  rx : s.rxs.state ≠ .idle → ∃ d, s.rxs.dec = some d ∧ (s.plug (.dec d)).lc = .active ∧
    ∀ f, s.decFlt d = some f → f.allocated = true ∧ f.n = s.rxs.n

/-- Every idle level and every precomputed sample is a TX sample, `0..TX_MAX` (43_encoders.md R211, R212, R216, R219,
R241). -/
structure LevelInv (s : State) : Prop where
  wave : s.encWave.lvl0.toNat ≤ Config.txMax
  lut : ∀ row ∈ s.encWave.swLut, ∀ v ∈ row, v.toNat ≤ Config.txMax
  wav : s.encWav.lvl0.toNat ≤ Config.txMax
  ook : s.encOok.lvl0.toNat ≤ Config.txMax
  pwm : s.encPwm.lvl0.toNat ≤ Config.txMax
  morse : s.encMorse.lvl0.toNat ≤ Config.txMax

/-! What PLCPHY assumes of TRANSPORT (70_reset_and_hazards.md R354 to R356; 93_implementation_defined.md U10; log entry
30). The assumption is about the moves TRANSPORT makes; where it is broken the step still does what PLCPHY would do. -/

/-- The TX buffer TRANSPORT has once it has taken every request word, oldest first (30_encoding.md R102). -/
def txGrantAfter (grant : Option Grant) (requests : List Word) : Option Grant :=
  requests.foldl (fun g w => if w.code = 0x90 then some ⟨w.unit, w.arg⟩ else g) grant

/-- The RX buffer TRANSPORT has once it has taken every request word, oldest first (30_encoding.md R102). -/
def rxGrantAfter (grant : Option Grant) (requests : List Word) : Option Grant :=
  requests.foldl (fun g w => if w.code = 0x91 then some ⟨w.unit, w.arg⟩
    else if w.code = 0x92 then Grant.endIf w.unit g else g) grant

/-- R354 (3) and (4) on the event word `w`: it reports the buffer TRANSPORT has, with its count, and no RX request (an
abort above all) is under way that TRANSPORT has not taken: no event is late in the sense of R355. -/
structure EventTruthful (s : State) (w : Word) : Prop where
  sent : w.code = 0x80 → s.txGrant = some ⟨w.unit, w.arg⟩
  captured : w.code = 0x81 → s.rxGrant = some ⟨w.unit, w.arg⟩ ∧ ∀ r ∈ s.evOut, r.code ≠ 0x91 ∧ r.code ≠ 0x92

/-- R354 and R356 on the next move: TRANSPORT reports truthfully, reads only the TX buffer it has in a session and writes
only the RX buffer it has, within the count and `RX_BITS`, and never writes a TX buffer or reads an RX buffer; and on HOST's turn `tx_busy` is high while TRANSPORT still has
a buffer of a TX session that is over. -/
def TransportKeeps (s : State) : Prop :=
  match nextMove s with
  | .turn .event => ∀ w ∈ s.evIn.head?, EventTruthful s w
  | .turn .host => s.txs.state = .idle → s.txBusy = false → txGrantAfter s.txGrant s.evOut = none
  | .txRead j i => s.txs.state ≠ .idle ∧ ∃ g, s.txGrant = some g ∧ g.buf.toNat = j ∧ i < g.count.toNat
  | .rxWrite j i v =>
    (∃ g, s.rxGrant = some g ∧ g.buf.toNat = j ∧ i < g.count.toNat) ∧ v.toNat < 2 ^ Config.rxBits ∧
      ∀ r ∈ s.evOut, r.code ≠ 0x91 ∧ r.code ≠ 0x92
  | .txWrite _ _ _ => False
  | .rxRead _ _ => False
  | _ => True

/-- What a TRANSPORT that keeps to R354 preserves: every word on its way to it is a request, it has at most one TX buffer
or request for one, and what it has or has reported is exactly the buffer in flight or armed; and the buffers it may touch are those its requests,
taken and under way, name. -/
structure TransportInv (s : State) : Prop where
  requests : ∀ w ∈ s.evOut, w.code = 0x90 ∨ w.code = 0x91 ∨ w.code = 0x92
  txOnce : (s.evOut.filter (fun w => w.code = 0x90)).length + (if s.txGrant.isSome then 1 else 0) ≤ 1
  tx : s.txs.state ≠ .idle → txGrantAfter s.txGrant s.evOut =
    match s.txs.inflight with
    | some j => if s.txQueue = [] then some ⟨BitVec.ofNat 8 j, s.txs.n⟩ else none
    | none => none
  txQueue : s.txs.state ≠ .idle →
    s.txQueue = [] ∨ ∃ j, s.txs.inflight = some j ∧ s.txQueue = [eventWord 0x80 j s.txs.n]
  rx : rxGrantAfter s.rxGrant s.evOut =
    match s.rxs.armedBuf with
    | some j => if s.rxQueue = [] then some ⟨BitVec.ofNat 8 j, s.rxs.n⟩ else none
    | none => none
  rxQueue : s.rxQueue = [] ∨ ∃ j, s.rxs.armedBuf = some j ∧ s.rxQueue = [eventWord 0x81 j s.rxs.n]
  txHas : s.txHas = (txGrantAfter s.txGrant s.evOut).map (·.buf)
  rxHas : s.rxHas = (rxGrantAfter s.rxGrant s.evOut).map (·.buf)

/-- A step is safe where it neither stops the model nor halts PLCPHY. -/
def SafeStep (s : State) : Prop := ∃ t, step s = .next t ∧ t.halted = s.halted

end Machine

end Sys2Proof
end

