-- ==== Sys2Proof/Certificates/Slice0/Obligations.lean ====
section
/-! DEFINITION. The statements for the provers, from the numbered rules of the spec. Where a statement rests on a choice of
the model its text names the log entry. -/

section

open Sys2Proof Sys2Proof.Machine

/-- O1. Decoding an encoded instruction gives it back, with every operand, and leaves the words after it. For every
well-formed command i (all 109, every operand at every value the encoding admits) and any words after it, the
decoder on encode i followed by those words answers i and those words: no bit of an operand is dropped and exactly
the payload words of R101 are consumed. Each of the five instructions of the event port, with every buffer number
and count, encodes to one word that decodes to it. (R91, R94, R95, R98, R101, R102) -/
def Obligations.DecodeReadsEveryEncodedInstruction : Prop :=
  (∀ (i : Instr) (rest : List Word), i.wf = true → i.isCommand = true → decode (encode i ++ rest) = .instr i rest) ∧
  (∀ i : Instr, i.isCommand = false → ∃ w, encode i = [w] ∧ decodeEvent w = some i)

/-- O2. A decoded command is well formed, is read from its own words alone, and later words are left over. Whatever
words wait on the command port, an instruction the decoder answers is a command, is well formed, and the words left
are those after the ones it used, of which there is at least one; with any further words after them it decodes to
the same instruction, and those words are left over too. (R94, R95, R98, R101) -/
def Obligations.DecodedCommandsAreWellFormedAndSelfContained : Prop :=
  (∀ (ws : List Word) (i : Instr) (rest : List Word), decode ws = .instr i rest →
    i.wf = true ∧ i.isCommand = true ∧ ∃ used, used ≠ [] ∧ ws = used ++ rest) ∧
  (∀ (ws : List Word) (i : Instr) (rest more : List Word), decode ws = .instr i rest →
    decode (ws ++ more) = .instr i (rest ++ more))

/-- O3. A command word is illegal exactly where R93 does not define it, and then answers E_BAD_COMMAND alone. For all
2^32 command words: the decoder answers illegal, leaving every word after the command word, exactly where the pair
of opcode and unit is not one R93 defines (written here as ranges, independent of the decoder's table). On HOST's
turn, with no stop withheld, such a word is consumed alone; the answer is the one status word E_BAD_COMMAND
(E_HALTED with the fatal code where PLCPHY is halted) and no other state changes. (R92, R93, R100, R307) -/
def Obligations.IllegalCommandWordsAnswerBadCommand : Prop :=
  (∀ (w : Word) (ws : List Word), decode (w :: ws) = .illegal ws ↔ definedPair w.code.toNat w.unit.toNat = false) ∧
  (∀ (s : State) (w : Word) (rest : List Word) (moves : List Move), s.agenda = .turn .host :: moves →
    s.stopWait = none → s.cmdIn = w :: rest → definedPair w.code.toNat w.unit.toNat = false →
    step s = .next { s with cmdIn := rest, agenda := moves, tick := s.tick + 1,
                            rsp := [if s.halted then (0 : BitVec 16) ++ s.fatalCode ++ (0x0B : BitVec 8)
                                    else (0x00000001 : Word)] })

/-- O4. Command words written out in the test vectors decode to the commands they stand for. Seven transactions of
95_test_vectors.md section 3.1 (a CREATE with a non-zero ignored arg, a SET_SETTING, a PARSE_NEXT_SAMPLES, a
PB_LOAD, a FLT_SET_DEMOD, a TX_BIND, a SYS_STATUS) and one event word decode to what the vectors say.
(95_test_vectors.md section 3.1, R91, R102) -/
def Obligations.SpecWordsDecodeToTheirCommands : Prop :=
  decode [0x0101BEEF] = .instr .createDecOok [] ∧
  decode [0x04010001, 0x00000006, 0x000003E8] = .instr (.setSettingDecOok 1 ⟨6, [0x3E8]⟩) [] ∧
  decode [0x11020003, 0x02C80200, 0x00000200] = .instr (.parseNextSamplesDecPwm [512, 712, 512]) [] ∧
  decode [0x1A090000, 0x00010001, 0x00000008, 0x00000004, 0x40FF8000] =
    .instr (.pbLoad 1 1 8 [0x00, 0x80, 0xFF, 0x40]) [] ∧
  decode [0x21000002, 0x40000000] = .instr (.fltSetDemod 2 0x40000000) [] ∧
  decode [0x3010000A] = .instr (.txBind 10) [] ∧
  decode [0x3FFF0000] = .instr .sysStatus [] ∧
  decodeEvent 0x80010100 = some (.evTxSent 1 256)

/-- O5. On HOST's turn a step is the meaning of the command its words decode to. Where the next move is HOST's turn, no
stop is withheld and the words on the command port decode to a well-formed instruction i, the step is exec of i on
the state without those words; beside that it takes the move off the agenda and counts the step. The agenda and the
step count are the model's own (log entries 1 and 2). (R12, R90) -/
def Obligations.StepRunsTheDecodedCommand : Prop :=
  ∀ (s : State) (i : Instr) (rest : List Word) (moves : List Move), s.agenda = .turn .host :: moves →
    s.stopWait = none → decode s.cmdIn = .instr i rest → i.wf = true →
    step s =
      match exec i { s with cmdIn := rest } with
      | .next t => .next { t with agenda := moves, tick := s.tick + 1 }
      | .fault r => .fault r
      | .refused r => .refused r

/-- O6. On the event port's turns a step is the meaning of its next word; a word TRANSPORT may not send is dropped.
Where the next move delivers TRANSPORT's next word and it is an EV_TX_SENT or EV_RX_CAPTURED, the step is exec of
it; a word with any other code is dropped and nothing else happens. Where the next move is TRANSPORT taking PLCPHY's
next request word, the step is exec of that word (log entry 6). Beside that the move leaves the agenda and the step
is counted. (R102, R312) -/
def Obligations.StepRunsTheWordsOfTheEventPort : Prop :=
  (∀ (s : State) (w : Word) (i : Instr) (rest : List Word) (moves : List Move), s.agenda = .turn .event :: moves →
    s.evIn = w :: rest → (w.code = 0x80 ∨ w.code = 0x81) → decodeEvent w = some i →
    step s =
      match exec i { s with evIn := rest } with
      | .next t => .next { t with agenda := moves, tick := s.tick + 1 }
      | .fault r => .fault r
      | .refused r => .refused r) ∧
  (∀ (s : State) (w : Word) (rest : List Word) (moves : List Move), s.agenda = .turn .event :: moves →
    s.evIn = w :: rest → w.code ≠ 0x80 → w.code ≠ 0x81 →
    step s = .next { s with evIn := rest, agenda := moves, tick := s.tick + 1 }) ∧
  (∀ (s : State) (w : Word) (i : Instr) (rest : List Word) (moves : List Move), s.agenda = .turn .request :: moves →
    s.evOut = w :: rest → decodeEvent w = some i →
    step s =
      match exec i { s with evOut := rest } with
      | .next t => .next { t with agenda := moves, tick := s.tick + 1 }
      | .fault r => .fault r
      | .refused r => .refused r)

/-- O7. Every instruction, with any operands and in any state, ends in a next state. No instruction of the model ends in
a fault or a refusal of the model: PLCPHY answers every command with a status, and a fatal error is a next state
with the halt latch set. (R96, R142, R306) -/
def Obligations.InstructionsNeverStop : Prop :=
  ∀ (i : Instr) (s : State), ∃ t, exec i s = .next t

/-- O8. While halted every command but SYS_STATUS answers E_HALTED with the fatal code and changes nothing. In every
halted state: every command other than SYS_STATUS, whatever its operands and the state of its unit, ends in the same
state with the one response word E_HALTED, detail fatal_code. An illegal command word on HOST's turn is answered so
too, its word alone consumed. A withheld TX_STOP or RX_STOP is completed with E_HALTED on HOST's turn. (The words a
legal command consumes are those it decodes from: StepRunsTheDecodedCommand.) (R307) -/
def Obligations.HaltedCommandsAnswerHalted : Prop :=
  (∀ (i : Instr) (s : State), i.isCommand = true → i ≠ .sysStatus → s.halted = true →
    exec i s = .next { s with rsp := [(0 : BitVec 16) ++ s.fatalCode ++ (0x0B : BitVec 8)] }) ∧
  (∀ (s : State) (w : Word) (rest : List Word), s.halted = true → s.stopWait = none → s.cmdIn = w :: rest →
    definedPair w.code.toNat w.unit.toNat = false →
    hostStep s = .next { s with cmdIn := rest, rsp := [(0 : BitVec 16) ++ s.fatalCode ++ (0x0B : BitVec 8)] }) ∧
  (∀ (s : State) (i : Instr) (rest : List Word), s.halted = true → s.stopWait = none → decode s.cmdIn = .instr i rest →
    hostStep s = exec i { s with cmdIn := rest }) ∧
  (∀ (s : State) (d : Dir), s.halted = true → s.stopWait = some d →
    hostStep s = .next { s with stopWait := none, rsp := [(0 : BitVec 16) ++ s.fatalCode ++ (0x0B : BitVec 8)] })

/-- O9. A command on a busy plugin unit is refused with E_BUSY, but for the four commands R142 exempts. Where the unit
is bound to a scheduler that is not IDLE, every command on it except GET_STATUS, GET_ACCEPTED_SETTINGS, READ_DECODED
and READ_CAPTURE writes err_status with E_BUSY, answers E_BUSY with detail 0, and changes nothing else. (R142) -/
def Obligations.BusyUnitsRefuse : Prop :=
  ∀ (i : Instr) (op : PluginOp) (u : PluginUnit) (s : State), i.view = .plugin op u → s.halted = false →
    s.busy u = true → op.whileBusy = false →
    exec i s = .next { s.setPlug u { s.plug u with errStatus := 3 } with rsp := [0x00000003] }

/-- O10. A command the lifecycle table does not admit answers E_BAD_STATE with lc; a unit not ready answers E_NOT_READY.
Where the unit is not busy (or the command may run while busy) and lc is not among the states the table of R141
admits for the command, err_status becomes E_BAD_STATE, the answer is E_BAD_STATE with detail lc, and nothing else
changes. On a free decoder in IDLE with ready = 0, INITIALIZE writes err_status with E_NOT_READY, answers it, and
changes nothing else; the same for RESET of an encoder in IDLE or ACTIVE. (R141, R142, R238, R302) -/
def Obligations.LifecycleTableRefuses : Prop :=
  (∀ (i : Instr) (op : PluginOp) (u : PluginUnit) (s : State), i.view = .plugin op u → s.halted = false →
    (s.busy u = false ∨ op.whileBusy = true) → (s.plug u).lc ∉ op.states u →
    exec i s = .next { s.setPlug u { s.plug u with errStatus := 2 } with
                         rsp := [(0 : BitVec 16) ++ (s.plug u).lc.code ++ (0x02 : BitVec 8)] }) ∧
  ((∀ (d : DecUnit) (n : BitVec 16) (s : State), Admits s (.dec d) .idle → (s.plug (.dec d)).ready = false →
    exec (Instr.start d n) s =
      .next { s.setPlug (.dec d) { s.plug (.dec d) with errStatus := 8 } with rsp := [0x00000008] }) ∧
  (∀ (e : EncUnit) (s : State), (Admits s (.enc e) .idle ∨ Admits s (.enc e) .active) →
    (s.plug (.enc e)).ready = false →
    exec (Instr.reset e) s =
      .next { s.setPlug (.enc e) { s.plug (.enc e) with errStatus := 8 } with rsp := [0x00000008] }))

/-- O11. A command answered with a code other than OK writes that code to its unit's err_status, or raises the latch,
and nothing else. For every command but SET_SETTING and END_SETTINGS, not halted before it: where the answer has a
code other than OK there are no response words and rlen is 0. Where the code is E_HALTED (a fatal error) the state
is the one before with the latch set and fatal_code the answer's detail. Otherwise a command on a plugin unit leaves
the state before with err_status of that unit the answer's code, and a command on the filter, a scheduler or the
system leaves the state before. Halted before it, the state is the one before and the answer E_HALTED with
fatal_code. SET_SETTING and END_SETTINGS have statements of their own. (R96, R301, R306) -/
def Obligations.RefusedCommandsChangeErrStatusOnly : Prop :=
  ∀ (i : Instr) (s t : State) (w : Word) (ws : List Word), i.isCommand = true →
    (∀ u, i.view ≠ .plugin .setSetting u ∧ i.view ≠ .plugin .endSet u) → exec i s = .next t → t.rsp = w :: ws →
    let code := w.extractLsb' 0 8
    let detail := w.extractLsb' 8 8
    code ≠ 0 →
    ws = [] ∧ w.extractLsb' 16 16 = 0 ∧ (s.halted = true → code = 0x0B ∧ detail = s.fatalCode) ∧
      t = (if s.halted = true then { s with rsp := [w] }
           else if code = 0x0B then { s with halted := true, fatalCode := detail, rsp := [w] }
           else match i.view with
             | .plugin _ u => { s.setPlug u { s.plug u with errStatus := code } with rsp := [w] }
             | _ => { s with rsp := [w] })

/-- O12. The state after reset meets the memory, pool, session and level invariants. After reset every memory is in its
canonical form, TRANSPORT owns no buffer, no unit is bound, no session runs, and every idle level and every
precomputed sample is a TX sample. R43 gives the registers; it leaves the contents of the memories and of sw_lut
unspecified: that sw_lut is empty is the model's choice (log entry 9), and so is the canonical form of the memories
and that they list nothing (log entry 10). (R25, R37, R38, R43, R63, R64, R65, R340) -/
def Obligations.ResetMeetsTheInvariants : Prop :=
  MemoriesCanonical State.reset ∧ TxPoolInv State.reset ∧ RxPoolInv State.reset ∧ SessionInv State.reset ∧
    LevelInv State.reset

/-- O13. Every step keeps every memory in its canonical form, and every level and sweep sample a TX sample. From every
state in which the pool buffers, the playback memory and the four capture memories list their elements by strictly
rising index, every step leads to such a state. The form is the model's (log entry 10); that elements are addressed
by index is R61. From every state whose idle levels and sweep tables lie in 0..TX_MAX, every step leads to such a
state. (R60, R61, R62, R15, R211, R212, R219, R241) -/
def Obligations.EveryStepKeepsMemoriesAndLevels : Prop :=
  (∀ s t : State, MemoriesCanonical s → step s = .next t → MemoriesCanonical t) ∧
  (∀ s t : State, LevelInv s → step s = .next t → LevelInv t)

/-- O14. From every state that meets the pool invariants a step never stops, and keeps them. TRANSPORT owns the buffer
in flight or armed and no other, the buffer TXS fills is never the one in flight, an idle scheduler owns every
buffer, captured chunks lie between rd_idx and wr_idx, and a session has a bound unit and a length: from every state
with these, every step, whoever takes it, ends in a next state with these. (R63, R64, R65, R276, R292) -/
def Obligations.EveryStepKeepsThePoolInvariants : Prop :=
  ∀ s : State, TxPoolInv s → RxPoolInv s → ∃ t, step s = .next t ∧ TxPoolInv t ∧ RxPoolInv t

/-- O15. Every step keeps bindings and sessions in agreement: no command pulls a unit from under its scheduler. From
every state in which each unit's bound register names the scheduler that has it, absent units are unbound, and a
running session's unit is ACTIVE (a decoder with a filter of the session's chunk size), every step leads to such a
state. (R25, R142, R148, R262, R263, R294) -/
def Obligations.EveryStepKeepsBindingsAndSessions : Prop :=
  ∀ s t : State, SessionInv s → step s = .next t → SessionInv t

/-- O16. A scheduler step raises no fatal error but F_COUNT; with a TRANSPORT that keeps to R354 nothing but a command
halts PLCPHY. In every state that meets the invariants and is not halted, a step of TXS or RXS that halts PLCPHY
raises F_COUNT (an event with a wrong count): never F_INDEX, F_OWNERSHIP or F_CHUNK_LEN. What PLCPHY assumes of
TRANSPORT (R354, R355, R356) is the hypothesis TransportKeeps on the next move: it reports only the buffer it has,
with its count, and no capture that is aborted; it touches only the buffer it has; tx_busy is true (log entry 30,
the model's reading). Under it every step keeps TransportInv, which reset meets: the buffer TRANSPORT has or has
reported is the one in flight or armed, so no late event (R355) waits; and no step but a command of HOST halts
PLCPHY. That nothing stands on the event port after reset and TRANSPORT has no buffer is the model's (log entry 6).
(R62, R276, R286, R305, R354, R355, R356) -/
def Obligations.SessionsRaiseNoErrorButCount : Prop :=
  (∀ s t : State, TxPoolInv s → RxPoolInv s → SessionInv s → s.halted = false →
    (txsStep s = .next t ∨ rxsStep s = .next t) → t.halted = true → t.fatalCode = 3) ∧
  TransportInv State.reset ∧
  (∀ s t : State, TxPoolInv s → RxPoolInv s → SessionInv s → TransportInv s → TransportKeeps s → step s = .next t →
    TransportInv t ∧ (s.halted = false → nextMove s ≠ .turn .host → t.halted = false))

/-- O17. The halt latch and its code stay through every step but reset, and a halted PLCPHY does nothing of its own.
Raising a fatal error when not halted records its code and sets the latch; raised again it changes nothing. From a
halted state every step but the reset input keeps the latch, its code, every plugin unit, the filter, both
schedulers, the playback memory and the owner of every pool buffer, emits no request word, hands TRANSPORT no
buffer, and takes no word from an event queue. Every sample of the pools reads as before but the one that the step's
move, a write by TRANSPORT, which is no part of PLCPHY, names. That TRANSPORT goes on while PLCPHY is halted, so
that its words still join the queues and it may still write a buffer it has, is log entry 8 (DEDUCED); what
TRANSPORT has is the model's own field (log entry 6). (R21, R306, R309) -/
def Obligations.TheHaltLatchHoldsUntilReset : Prop :=
  (∀ (s : State) (c d : FatalCode), s.halted = false →
    s.raiseFatal c = { s with halted := true, fatalCode := c.code } ∧
    (s.raiseFatal c).raiseFatal d = s.raiseFatal c) ∧
  (∀ s t : State, s.halted = true → nextMove s ≠ .rst → step s = .next t →
    t.halted = true ∧ t.fatalCode = s.fatalCode ∧ (∀ u, t.regs u = s.regs u) ∧ t.flt = s.flt ∧ t.txs = s.txs ∧
      t.rxs = s.rxs ∧ t.txFilled = s.txFilled ∧ t.pbm = s.pbm ∧ t.evOut <:+ s.evOut ∧
      t.txPool.map (·.owner) = s.txPool.map (·.owner) ∧ t.rxPool.map (·.owner) = s.rxPool.map (·.owner) ∧
      (t.txPool ≠ s.txPool → ∃ j i v, nextMove s = .txWrite j i v) ∧
      (t.rxPool ≠ s.rxPool → ∃ j i v, nextMove s = .rxWrite j i v) ∧
      (∀ j i, (∀ v, nextMove s ≠ .txWrite j i v) →
        (t.txPool[j]?).map (fun b => Memory.read b.samples i) = (s.txPool[j]?).map (fun b => Memory.read b.samples i)) ∧
      (∀ j i, (∀ v, nextMove s ≠ .rxWrite j i v) →
        (t.rxPool[j]?).map (fun b => Memory.read b.samples i) = (s.rxPool[j]?).map (fun b => Memory.read b.samples i)) ∧
      s.txQueue <+: t.txQueue ∧ s.rxQueue <+: t.rxQueue ∧
      (t.txHas = s.txHas ∨ t.txHas = none) ∧ (t.rxHas = s.rxHas ∨ t.rxHas = none))

/-- O18. The reset input gives every register of PLCPHY its reset value, from any state. Where the next move is rst, the
step leads to the state in which every plugin unit and every other register of PLCPHY is as after reset, but for the
level inputs, which are TRANSPORT's, and TRANSPORT may touch no buffer (R354 (1); the model's own field, log entry
6). R43 and R341 leave the settings of an absent unit, the filter arrays, sw_lut, the pool samples, PBM and the
captured values unspecified: the values of the settings, the filter arrays and sw_lut are the model's choice (log
entry 9), and that the pools, PBM and the capture memories list nothing, so that each of their elements is a free
value, is its choice too (log entry 10). That no answer and no request word is left and that the level inputs stay
is the model's reading of R340 and R342, which do not say it (log entry 21). (R43, R340, R342) -/
def Obligations.TheResetInputRestoresEveryRegister : Prop :=
  ∀ (s : State) (moves : List Move), s.agenda = .rst :: moves →
    ∃ t, step s = .next t ∧ (∀ u, t.regs u = State.reset.regs u) ∧
      t.system = { State.reset.system with txBusy := s.txBusy, rxBusy := s.rxBusy } ∧ t.rsp = [] ∧ t.evOut = [] ∧ t.txHas = none ∧ t.rxHas = none ∧
      t.halted = false ∧ t.fatalCode = 0 ∧ t.txs.state = .idle ∧ t.rxs.state = .idle ∧ t.stopWait = none ∧
      (∀ u, (t.plug u).lc = .absent ∧ (t.plug u).ready = false ∧ (t.plug u).bound = .unbound)

/-- O19. CREATE makes an IDLE unit with default settings, zero registers and an empty stream, and touches nothing else.
For all nine plugin units: on an absent unit CREATE answers OK; lc is IDLE, ready, txn_error, err_status, err_msg
and bound are 0, every setting holds its default, every derived and working register is 0, dout is empty, no
playback data is loaded; every other unit and every other register is unchanged. (R143) -/
def Obligations.CreateMakesAFreshUnit : Prop :=
  ∀ (u : PluginUnit) (s : State), Admits s u .absent →
    ∃ t, exec (Instr.create u) s = .next t ∧ t.rsp = [0x00000000] ∧ OnlyUnit u s t ∧
      t.plug u = { lc := .idle, ready := false, txnError := false, errStatus := 0, errMsg := 0, bound := .unbound,
                   settings := (settingTable u).map (fun d => (d.id, d.default)) } ∧
      (∀ d, u = .dec d → t.dout d = [] ∧ (∀ c, t.decCore d = some c → c.der = DecDerived.reset) ∧
        ∀ f, t.decFlt d = some f → f.allocated = false ∧ f.valid = false) ∧
      (u = .dec .ook → t.decOok.ook = OokRegs.reset) ∧ (u = .dec .pwm → t.decPwm.pwm = PwmRegs.reset) ∧
      (u = .dec .morse → t.decMorse.morse = MorseRegs.reset) ∧
      (u = .enc .wave → t.encWave = { EncWave.reset with plug := t.plug u }) ∧
      (u = .enc .wav → t.encWav = { EncWav.reset with plug := t.plug u }) ∧
      (u = .enc .ook → t.encOok = { EncSeq.reset .ook with plug := t.plug u }) ∧
      (u = .enc .pwm → t.encPwm = { EncSeq.reset .pwm with plug := t.plug u }) ∧
      (u = .enc .morse → t.encMorse = { EncSeq.reset .morse with plug := t.plug u })

/-- O20. GET_ACCEPTED_SETTINGS answers the count and one record per setting, in identifier order, changes no state, and
is legal while busy. For all nine plugin units that exist, busy or not: GET_ACCEPTED_SETTINGS answers OK and the
number of settings followed by one record for each row of the unit's setting table, in ascending identifier order;
no other state changes. A record is the word of flags, tag and identifier, the name as a byte string, the default
value, minimum and maximum of an integer setting, and the captions of an enum (R99). For DEC_RAW the words are the
one word 0; for ENC_WAV the thirteen words of 95_test_vectors.md L9. (R99, R144) -/
def Obligations.AcceptedSettingsAreDescribed : Prop :=
  ∀ (u : PluginUnit) (s : State), s.halted = false → (s.plug u).lc ≠ .absent →
    let text (name : String) : List Word :=
      BitVec.ofNat 32 name.toList.length :: packBytes (name.toList.map (fun c => BitVec.ofNat 8 c.toNat))
    let record (d : SettingDef) : List Word :=
      let tag := d.default.tag
      let flags : BitVec 8 := if 1 ≤ tag ∧ tag ≤ 8 then 1 else if tag = 12 then 2 else 0
      [flags ++ BitVec.ofNat 8 tag ++ BitVec.ofNat 16 d.id] ++ text d.name ++ d.default.words ++
        (if 1 ≤ tag ∧ tag ≤ 8 then [BitVec.ofNat 32 d.lo, BitVec.ofNat 32 d.hi] else []) ++
        (if tag = 12 then BitVec.ofNat 32 d.captions.length :: d.captions.flatMap text else [])
    let words := BitVec.ofNat 32 (settingTable u).length :: (settingTable u).flatMap record
    exec (Instr.acceptedSettings u) s = .next { s with rsp := statusWord .ok 0 words.length :: words } ∧
      ((settingTable u).map (·.id)).Pairwise (· < ·) ∧
      (u = .dec .raw → words = [0]) ∧
      (u = .enc .wav → words = [2, 0x01040011, 6, 0x7366666F, 0x00007465, 0x00000200, 0, 0x0000FFFF,
                                0x0000001A, 6, 0x65706572, 0x00007461, 0])

/-- O21. BEGIN_SETTINGS clears txn_error and enters CONFIG, from IDLE, and from ACTIVE for an encoder. For all nine
plugin units: on a free unit in IDLE, or a free encoder in ACTIVE, the answer is OK, txn_error is 0 and lc CONFIG,
and nothing else changes. (R141, R146) -/
def Obligations.BeginSettingsOpensABracket : Prop :=
  ∀ (u : PluginUnit) (s : State), (Admits s u .idle ∨ (Admits s u .active ∧ ∃ e, u = .enc e)) →
    exec (Instr.beginSettings u) s =
      .next { s.setPlug u { s.plug u with txnError := false, lc := .config } with rsp := [0x00000000] }

/-- O22. SET_SETTING with a legal value of the setting's own tag writes that settings register and no other. For all
units with settings: in CONFIG, with an identifier the unit has, the setting's own tag and well-formed words of a
legal value, the answer is OK; the register holds that value, every other setting and every other register is
unchanged. (R22, R98, R145) -/
def Obligations.SetSettingWritesOneRegister : Prop :=
  ∀ (u : PluginUnit) (s : State) (id : BitVec 16) (v : SettingArg) (d : SettingDef) (x : SetVal),
    Admits s u .config → settingDef? u id.toNat = some d → v.tag.toNat = d.default.tag → settingValue? v = some x →
    d.legal x = true →
    ∃ t, exec (Instr.setSetting u id v) s = .next t ∧
      (((s.plug u).setting? id.toNat).isSome → (t.plug u).setting? id.toNat = some x) ∧
      (∀ k, k ≠ id.toNat → (t.plug u).setting? k = (s.plug u).setting? k) ∧
      t = { s.setPlug u { s.plug u with settings := (t.plug u).settings } with rsp := [0x00000000] }

/-- O23. SET_SETTING refuses an unknown setting, a wrong tag, an ill-formed or illegal value; DEC_RAW has no setting to
write. For all nine units in CONFIG: an identifier the unit has not gives E_UNKNOWN_SETTING, another tag than the
setting's gives E_BAD_TYPE with the setting's tag, words that are ill formed for the tag or no legal value give
E_OUT_OF_RANGE; each sets txn_error, err_status to the code and err_msg to M_SETTING_REJECTED, and changes nothing
else: the setting keeps its value. DEC_RAW has no settings (R202), so its SET_SETTING, in CONFIG, ends so for every
identifier and value: that is the whole effect the spec gives this command. (R97, R98, R145, R22, R202) -/
def Obligations.SetSettingRefusesBadOperands : Prop :=
  (∀ (u : PluginUnit) (s : State) (id : BitVec 16) (v : SettingArg), Admits s u .config →
    let fail (code detail : BitVec 8) : Host.Outcome State Fault Refusal :=
      .next { s.setPlug u { s.plug u with txnError := true, errStatus := code, errMsg := 1 } with
                rsp := [(0 : BitVec 16) ++ detail ++ code] }
    (settingDef? u id.toNat = none → exec (Instr.setSetting u id v) s = fail 4 0) ∧
    (∀ d, settingDef? u id.toNat = some d → v.tag.toNat ≠ d.default.tag →
      exec (Instr.setSetting u id v) s = fail 5 (BitVec.ofNat 8 d.default.tag)) ∧
    (∀ d, settingDef? u id.toNat = some d → v.tag.toNat = d.default.tag →
      (∀ x, settingValue? v = some x → d.legal x = false) → exec (Instr.setSetting u id v) s = fail 6 0)) ∧
  (∀ (s : State) (id : BitVec 16) (v : SettingArg), Admits s (.dec .raw) .config →
    exec (.setSettingDecRaw id v) s =
      .next { s with
        decRaw := { s.decRaw with plug := { s.decRaw.plug with txnError := true, errStatus := 4, errMsg := 1 } },
        rsp := [0x00000004] })

/-- O24. END_SETTINGS of a viable decoder writes the derived registers of its rule, sets ready and returns to IDLE. For
the four decoders, in CONFIG with txn_error = 0 and (but for DEC_RAW) between one and 2^31 - 1 samples per symbol
(and no resynchronisation asked of DEC_OOK): the answer is OK, ready is 1, err_msg 0, lc IDLE; the common derived
registers are those of R171; n75, bpd and dpf, or confirm, or the four thresholds, are those of R173, R188, R193;
nothing else changes. (R147, R171, R173, R188, R193, R202) -/
def Obligations.EndSettingsConfiguresDecoders : Prop :=
  (∀ s : State, Admits s (.dec .ook) .config → s.decOok.core.plug.txnError = false → s.decOok.core.plug.viable →
    s.decOok.core.plug.num 9 ≠ 1 →
    exec .endSettingsDecOok s =
      .next { s with
        decOok := { core := { s.decOok.core with plug := s.decOok.core.plug.configured,
                                                 der := DecDerived.ofSettings s.decOok.core.plug },
                    ook := { s.decOok.ook with
                      n75 := BitVec.ofNat 32 (max 1 (3 * (s.decOok.core.plug.num 0 * s.decOok.core.plug.num 1) / 4000000)),
                      bpd := s.decOok.core.plug.num 7,
                      dpf := BitVec.ofNat 32 (s.decOok.core.plug.num 8) } },
        rsp := [0x00000000] }) ∧
  (∀ s : State, Admits s (.dec .pwm) .config → s.decPwm.core.plug.txnError = false → s.decPwm.core.plug.viable →
    exec .endSettingsDecPwm s =
      .next { s with
        decPwm := { core := { s.decPwm.core with plug := s.decPwm.core.plug.configured,
                                                 der := DecDerived.ofSettings s.decPwm.core.plug },
                    pwm := { s.decPwm.pwm with
                      confirm := BitVec.ofNat 64 (max 1 (s.decPwm.core.plug.num 0 * s.decPwm.core.plug.num 1 / 1000000)) } },
        rsp := [0x00000000] }) ∧
  (∀ s : State, Admits s (.dec .morse) .config → s.decMorse.core.plug.txnError = false → s.decMorse.core.plug.viable →
    let half (units : Nat) : BitVec 64 :=
      BitVec.ofNat 64 (max 1 (units * (s.decMorse.core.plug.num 0 * s.decMorse.core.plug.num 1) / 2000000))
    exec .endSettingsDecMorse s =
      .next { s with
        decMorse := { core := { s.decMorse.core with plug := s.decMorse.core.plug.configured,
                                                     der := DecDerived.ofSettings s.decMorse.core.plug },
                      morse := { s.decMorse.morse with tDot := half 1, tDash := half 4, tChar := half 4, tWord := half 10 } },
        rsp := [0x00000000] }) ∧
  (∀ s : State, Admits s (.dec .raw) .config → s.decRaw.plug.txnError = false →
    exec .endSettingsDecRaw s =
      .next { s with decRaw := { s.decRaw with plug := s.decRaw.plug.configured }, rsp := [0x00000000] })

/-- O25. END_SETTINGS of a viable bit-stream encoder writes its rate, carrier, level and segment list, and sets ready.
For ENC_OOK, ENC_PWM and ENC_MORSE, in CONFIG with txn_error = 0, a viable symbol length and no segment of 2^62
magnified samples or more: the answer is OK, ready is 1, err_msg 0, lc IDLE; sps_num, efw, amp, lvl0 and segs are
those of R219 with the segment list of R221, R226 or R231; nothing else changes. The lists are: for OOK the start
guard, then for each byte a start symbol, its eight bits from bit 7 down, and the inter-byte guard; for PWM for each
byte B a pulse of B units and the gap; for Morse, with the units 1, 3, 1, 3, 7 and letters folded to upper case, for
a space a gap of 7 - 3, for a character of MORSE_TABLE its elements of 1 or 3 units with a gap of 1 after each and a
gap of 3 - 1 after the last, and nothing for any other byte. (R147, R196, R219, R221, R222, R226, R227, R231, R232) -/
def Obligations.EndSettingsConfiguresBitStreamEncoders : Prop :=
  let configured (u : EncSeq) (segs : List Segment) : EncSeq :=
    { u with plug := u.plug.configured, spsNum := BitVec.ofNat 64 (u.plug.num 0 * u.plug.num 1),
             efw := BitVec.ofNat 32 (u.plug.num 19 * 2 ^ 32 / u.plug.num 0), amp := BitVec.ofNat 16 (u.plug.num 18 / 2),
             lvl0 := BitVec.ofNat 16 (min (u.plug.num 17) 1023), segs := segs }
  let fits (u : EncSeq) (segs : List Segment) : Prop := ∀ g ∈ segs, g.d * (u.plug.num 0 * u.plug.num 1) < 2 ^ 62
  (∀ s : State, Admits s (.enc .ook) .config → s.encOok.plug.txnError = false → s.encOok.plug.viable →
    let segs := segsOok (s.encOok.plug.str 27) (s.encOok.plug.num 28) (s.encOok.plug.num 29)
    fits s.encOok segs →
    exec .endSettingsEncOok s = .next { s with encOok := configured s.encOok segs, rsp := [0x00000000] }) ∧
  (∀ s : State, Admits s (.enc .pwm) .config → s.encPwm.plug.txnError = false → s.encPwm.plug.viable →
    let segs := segsPwm (s.encPwm.plug.str 27) (s.encPwm.plug.num 30)
    fits s.encPwm segs →
    exec .endSettingsEncPwm s = .next { s with encPwm := configured s.encPwm segs, rsp := [0x00000000] }) ∧
  (∀ s : State, Admits s (.enc .morse) .config → s.encMorse.plug.txnError = false → s.encMorse.plug.viable →
    let segs := segsMorse (s.encMorse.plug.str 27)
    fits s.encMorse segs →
    exec .endSettingsEncMorse s = .next { s with encMorse := configured s.encMorse segs, rsp := [0x00000000] }) ∧
  (∀ (message : List Byte) (sg ig : Nat), segsOok message sg ig =
    ⟨false, sg⟩ :: message.flatMap (fun b =>
      ⟨true, 1⟩ :: (List.range 8).map (fun k => (⟨b.getLsbD (7 - k), 1⟩ : Segment)) ++ [⟨false, ig⟩])) ∧
  (∀ (message : List Byte) (g : Nat), segsPwm message g =
    message.flatMap (fun b => [⟨true, b.toNat⟩, ⟨false, g⟩])) ∧
  (∃ piece : Byte → List Segment, (∀ message : List Byte, segsMorse message = message.flatMap piece) ∧
    ∀ b : Byte,
      let c : Byte := if 0x61 ≤ b.toNat ∧ b.toNat ≤ 0x7A then b - 0x20 else b
      (c = 0x20 → piece b = [⟨false, 7 - 3⟩]) ∧
      (∀ row ∈ morseTable, row.char = c → piece b =
        row.code.flatMap (fun dash => [(⟨true, if dash then 3 else 1⟩ : Segment), ⟨false, 1⟩]) ++ [⟨false, 3 - 1⟩]) ∧
      (c ≠ 0x20 → (∀ row ∈ morseTable, row.char ≠ c) → piece b = []))

/-- O26. END_SETTINGS of ENC_WAVE and of ENC_WAV with a valid format write their derived registers and set ready.
ENC_WAVE in CONFIG with txn_error = 0, any stream type but sweep: OK, with stype, efw, rng, amp, lo and lvl0 of
R212. With a sweep that is not precomputed: the same and K, sw_fw and sw_len of R216; with a precomputed one of at
most SWEEP_LUT_MAX samples: the same and sw_lut, in which entry n of iteration i is the tone of R216 at phase n *
sw_fw[i]. ENC_WAV with mono integer PCM of 8 bits, or of 16 bits and an even byte count: OK, with pb_count, lvl0 and
rep of R241. ready is 1, err_msg 0, lc IDLE, and nothing else changes. best_len, for every nominal length of at
least 1 and every frequency word, lies in [Lnom div 2 + 1, Lnom]; no length there is nearer to a whole number of
cycles, and no larger one is as near. (R147, R212, R216, R241) -/
def Obligations.EndSettingsConfiguresWaveAndPlayback : Prop :=
  ((∀ s : State, Admits s (.enc .wave) .config → s.encWave.plug.txnError = false →
    let p := s.encWave.plug
    let u : EncWave :=
      { s.encWave with plug := p.configured, stype := p.num 16, efw := BitVec.ofNat 32 (p.num 19 * 2 ^ 32 / p.num 0),
                       rng := BitVec.ofNat 16 (p.num 18), amp := BitVec.ofNat 16 (p.num 18 / 2),
                       lo := (p.num 17 : Int) - ((p.num 18 / 2 : Nat) : Int),
                       lvl0 := BitVec.ofNat 16 (min (p.num 17) 1023) }
    let fws := (List.range (p.num 21)).map (fun i =>
      BitVec.ofNat 32 (sweepFreq (p.num 19) (p.num 20) (p.num 21) i * 2 ^ 32 / p.num 0))
    (p.num 16 ≠ 5 → exec .endSettingsEncWave s = .next { s with encWave := u, rsp := [0x00000000] }) ∧
    (p.num 16 = 5 → p.num 23 ≠ 1 →
      exec .endSettingsEncWave s =
        .next { s with
          encWave := { u with k := BitVec.ofNat 32 (p.num 21), swFw := fws,
                              swLen := fws.map (fun w => BitVec.ofNat 32 (bestLen (p.num 22) w.toNat)) },
          rsp := [0x00000000] }) ∧
    (p.num 16 = 5 → p.num 23 = 1 → (fws.map (fun w => bestLen (p.num 22) w.toNat)).sum ≤ 1048576 →
      let tone (w : BitVec 32) (n : Nat) : Sample :=
        BitVec.ofNat 16 (min ((p.num 17 : Int) + Sys2Proof.Machine.Num.rnd (Sys2Proof.Machine.Num.mul
          (Sys2Proof.Machine.Num.ofInt (BitVec.ofNat 16 (p.num 18 / 2)).toNat)
          (Sys2Proof.Machine.Num.sinw (BitVec.ofNat 32 n * w)))).toNat 1023)
      exec .endSettingsEncWave s =
        .next { s with
          encWave := { u with k := BitVec.ofNat 32 (p.num 21), swFw := fws,
                              swLen := fws.map (fun w => BitVec.ofNat 32 (bestLen (p.num 22) w.toNat)),
                              swLut := fws.map (fun w => (List.range (bestLen (p.num 22) w.toNat)).map (tone w)) },
          rsp := [0x00000000] })) ∧
  (∀ s : State, Admits s (.enc .wav) .config → s.encWav.plug.txnError = false → s.encWav.pbFormat = 1 →
    s.encWav.pbChannels = 1 → (s.encWav.pbBits = 8 ∨ s.encWav.pbBits = 16 ∧ s.encWav.pbBytes.toNat % 2 = 0) →
    exec .endSettingsEncWav s =
      .next { s with
        encWav := { s.encWav with plug := s.encWav.plug.configured,
                                  pbCount := BitVec.ofNat 32 (if s.encWav.pbBits = 8 then s.encWav.pbBytes.toNat
                                                              else s.encWav.pbBytes.toNat / 2),
                                  lvl0 := BitVec.ofNat 16 (min (s.encWav.plug.num 17) 1023),
                                  rep := decide (s.encWav.plug.num 26 = 1) },
        rsp := [0x00000000] })) ∧
  (∀ lnom w : Nat, 1 ≤ lnom →
    let d (len : Nat) : Nat := min (len * w % 2 ^ 32) (2 ^ 32 - len * w % 2 ^ 32)
    lnom / 2 + 1 ≤ bestLen lnom w ∧ bestLen lnom w ≤ lnom ∧
      ∀ len, lnom / 2 + 1 ≤ len → len ≤ lnom →
        d (bestLen lnom w) ≤ d len ∧ (bestLen lnom w < len → d (bestLen lnom w) < d len))

/-- O27. END_SETTINGS answers E_CONFIG with its message, leaves the unit in IDLE and not ready, and touches no other
unit. In CONFIG: a rejected setting gives message 1 for every unit; with none rejected, a symbol shorter than one
sample gives 2 and one longer than 2^31 - 1 samples gives 3 for the three symbol decoders and the three bit-stream
encoders, as does a guard of ENC_OOK or a gap of ENC_PWM of 2^62 magnified samples or more (no viable Morse segment
is as long); resynchronisation asked of a viable DEC_OOK gives 4; a playback format that is not mono integer PCM of
8 or 16 bits (or an odd byte count at 16) gives 5; precomputed sweep tables past SWEEP_LUT_MAX give 6. In each, lc
is IDLE, ready 0, err_msg the message, err_status E_CONFIG, and the settings, the filter, dout, the playback
descriptor, the working registers, every other unit and every other register are unchanged. The unit's derived
registers are unchanged for messages 1 and 5; for the others the model writes those its rule writes before it
refuses (log entry 29, DEDUCED from R147), and nothing is said of them here. (R147, R171, R181, R216, R219, R241,
R302, R303) -/
def Obligations.EndSettingsRejectsBadConfigurations : Prop :=
  ∀ (u : PluginUnit) (s : State), Admits s u .config →
    let p := s.plug u
    let sps := p.num 0 * p.num 1
    let answer (m : BitVec 8) : Word := (0 : BitVec 16) ++ m ++ (0x07 : BitVec 8)
    let fails (m : BitVec 8) : Prop :=
      ∃ t, exec (Instr.endSettings u) s = .next t ∧ t.plug u = p.misconfigured m ∧ t.working u = s.working u ∧
        t.rsp = [answer m] ∧ OnlyUnit u s t
    let failsBare (m : BitVec 8) : Prop :=
      exec (Instr.endSettings u) s = .next { s.setPlug u (p.misconfigured m) with rsp := [answer m] }
    let symbols : Prop := u ∈ [.dec .ook, .dec .pwm, .dec .morse, .enc .ook, .enc .pwm, .enc .morse]
    let long (segs : List Segment) : Prop := ∃ g ∈ segs, 2 ^ 62 ≤ g.d * sps
    (p.txnError = true → failsBare 1) ∧
    (p.txnError = false → symbols → sps < 1000000 → fails 2) ∧
    (p.txnError = false → symbols → 2147483647 < sps / 1000000 → fails 3) ∧
    (p.txnError = false → p.viable →
      (u = .enc .ook → long (segsOok (p.str 27) (p.num 28) (p.num 29)) → fails 3) ∧
      (u = .enc .pwm → long (segsPwm (p.str 27) (p.num 30)) → fails 3)) ∧
    (p.txnError = false → u = .dec .ook → p.viable → p.num 9 = 1 → fails 4) ∧
    (p.txnError = false → u = .enc .wav →
      (s.encWav.pbFormat ≠ 1 ∨ s.encWav.pbChannels ≠ 1 ∨ (s.encWav.pbBits ≠ 8 ∧ s.encWav.pbBits ≠ 16) ∨
        (s.encWav.pbBits = 16 ∧ s.encWav.pbBytes.toNat % 2 = 1)) → failsBare 5) ∧
    (p.txnError = false → u = .enc .wave → p.num 16 = 5 → p.num 23 = 1 →
      1048576 < ((List.range (p.num 21)).map (fun i => bestLen (p.num 22)
        (BitVec.ofNat 32 (sweepFreq (p.num 19) (p.num 20) (p.num 21) i * 2 ^ 32 / p.num 0)).toNat)).sum → fails 6)

/-- O28. RELEASE destroys the unit's filter, undoes its binding, and leaves the unit ABSENT and not ready. For all nine
plugin units in IDLE, CONFIG or ACTIVE and free: the answer is OK; lc is ABSENT, ready 0, bound 0; a decoder's
filter that exists has exists = valid = 0; the scheduler the unit was bound to has none; no other unit, no memory
and no other register changes. What the spec leaves unspecified after RELEASE stays as it was, which is the model's
choice (log entry 11): the settings, the derived and working registers, ENC_WAV's descriptor, PBM, and the arrays
and captured values of the filter. (R132, R148) -/
def Obligations.ReleaseMakesAUnitAbsent : Prop :=
  ∀ (u : PluginUnit) (s : State), (Admits s u .idle ∨ Admits s u .config ∨ Admits s u .active) →
    ∃ t, exec (Instr.release u) s = .next t ∧ t.rsp = [0x00000000] ∧
      t.plug u = { s.plug u with bound := .unbound, ready := false, lc := .absent } ∧
      (∀ d f, u = .dec d → s.decFlt d = some f →
        t.decFlt d = some (if f.allocated then { f with allocated := false, valid := false } else f)) ∧
      t.regs u = ((match u with
        | .dec d => (match t.decFlt d with | some f => s.setDecFlt d f | none => s)
        | .enc _ => s).setPlug u (t.plug u)).regs u ∧ (∀ d, t.dout d = s.dout d) ∧
      (∀ v, v ≠ u → t.regs v = s.regs v) ∧ t.ports = s.ports ∧
      t.system = { s.system with
        txs := if (s.plug u).bound = .tx then { s.txs with enc := none } else s.txs,
        rxs := if (s.plug u).bound = .rx then { s.rxs with dec := none } else s.rxs }

/-- O29. GET_STATUS answers one word with lc, ready, txn_error, bound, err_status and err_msg, and changes nothing.
Opcode 0x07 with a plugin unit's number is GET_STATUS of that unit. For all nine plugin units in every lifecycle
state, busy or not: the answer is OK and one word with lc in bits 1..0, ready in 2, txn_error in 3, bound in 5..4,
err_status in 15..8, err_msg in 23..16 and every other bit 0; no other state changes. With lc = 1, ready = 0,
err_status = 7, err_msg = 2 on an unbound unit the word is 0x00020701. (R149) -/
def Obligations.GetStatusShowsTheUnit : Prop :=
  (∀ d : DecUnit, decode [fieldsWord 0x07 (decNumber d) 0] = .instr (Instr.getStatus (.dec d)) []) ∧
  (∀ e : EncUnit, decode [fieldsWord 0x07 (encNumber e) 0] = .instr (Instr.getStatus (.enc e)) []) ∧
  ∀ (u : PluginUnit) (s : State), s.halted = false →
    ∃ w : Word, exec (Instr.getStatus u) s = .next { s with rsp := [0x00010000, w] } ∧
      w.extractLsb' 0 2 = (s.plug u).lc.code.setWidth 2 ∧ w.getLsbD 2 = (s.plug u).ready ∧
      w.getLsbD 3 = (s.plug u).txnError ∧ w.extractLsb' 4 2 = (s.plug u).bound.code.setWidth 2 ∧
      w.extractLsb' 6 2 = 0 ∧ w.extractLsb' 8 8 = (s.plug u).errStatus ∧ w.extractLsb' 16 8 = (s.plug u).errMsg ∧
      w.extractLsb' 24 8 = 0 ∧
      ((s.plug u).lc = .idle → (s.plug u).ready = false → (s.plug u).txnError = false → (s.plug u).bound = .unbound →
        (s.plug u).errStatus = 7 → (s.plug u).errMsg = 2 → w = 0x00020701)

/-- O30. INITIALIZE makes a fresh filter of N samples from the derived registers, empties dout, zeroes the timing state.
For the four decoders, free, in IDLE and ready, and every chunk size but 0: the answer is OK; lc is ACTIVE, dout
empty; the filter of DEC_OOK, DEC_PWM or DEC_MORSE is the one of R175 (the preset's coefficients, zero history, the
derived demodulator and capture count); the working registers of R174, R189, R194 are 0; derived registers and
everything else are unchanged. (R121, R174, R175, R189, R194, R203) -/
def Obligations.InitializeStartsADecoder : Prop :=
  ∀ (d : DecUnit) (n : BitVec 16) (s : State), Admits s (.dec d) .idle → (s.plug (.dec d)).ready = true → n ≠ 0 →
    ∃ t, exec (Instr.start d n) s = .next t ∧ t.rsp = [0x00000000] ∧ OnlyUnit (.dec d) s t ∧
      t.plug (.dec d) = { s.plug (.dec d) with lc := .active } ∧ t.dout d = [] ∧
      (∀ c, s.decCore d = some c → t.decFlt d = some (Flt.ofDerived c.der n) ∧
        ∃ c', t.decCore d = some c' ∧ c'.der = c.der) ∧
      (d = .ook → t.decOok.ook =
        { OokRegs.reset with n75 := s.decOok.ook.n75, bpd := s.decOok.ook.bpd, dpf := s.decOok.ook.dpf }) ∧
      (d = .pwm → t.decPwm.pwm = { PwmRegs.reset with confirm := s.decPwm.pwm.confirm }) ∧
      (d = .morse → t.decMorse.morse =
        { MorseRegs.reset with
          tDot := s.decMorse.morse.tDot, tDash := s.decMorse.morse.tDash, tChar := s.decMorse.morse.tChar,
          tWord := s.decMorse.morse.tWord })

/-- O31. PARSE_NEXT_SAMPLES of a chunk of N samples filters it, runs the unit's algorithm on the outputs, and answers
the bytes appended. DEC_OOK, DEC_PWM and DEC_MORSE, free and ACTIVE, with exactly N samples: the unit's filter
processes the chunk with the derived offset; the algorithm of R182, R190 or R197 runs over the N outputs from the
unit's working registers, with the derived threshold (and samples per symbol); the bytes it emits are appended to
dout, its registers are the new working registers; the answer is OK and the number of bytes appended; the plugin and
derived registers and everything outside the unit are unchanged. The OOK loop has a bound of 3N + 6 passes (log
entry 17). DEC_RAW accepts any samples, answers 0 and changes nothing. (R124, R182, R190, R197, R204, R207) -/
def Obligations.ParseConsumesAChunk : Prop :=
  (∀ (d : DecUnit) (raw : List Sample) (s : State) (c : DecCore), Admits s (.dec d) .active → s.decCore d = some c →
    raw.length = c.flt.n.toNat →
    ∃ t f out, exec (Instr.parse d raw) s = .next t ∧ t.rsp = [0x00010000, BitVec.ofNat 32 out.length] ∧
      c.flt.processChunk raw c.der.off = .ok f ∧ t.decCore d = some { c with flt := f, dout := c.dout ++ out } ∧
      OnlyUnit (.dec d) s t ∧
      let y := (f.yb.drop f.p).take f.n.toNat
      let thr := c.der.thr
      let sps := c.der.spsNum.toNat
      (d = .ook → (t.decOok.ook, out) = OokRegs.parse thr sps y (3 * y.length + 6) 0 s.decOok.ook []) ∧
      (d = .pwm → (t.decPwm.pwm, out) = PwmRegs.parse thr sps y s.decPwm.pwm) ∧
      (d = .morse → (t.decMorse.morse, out) = MorseRegs.parse thr y s.decMorse.morse)) ∧
  (∀ (raw : List Sample) (s : State), Admits s (.dec .raw) .active →
    exec (.parseNextSamplesDecRaw raw) s = .next { s with rsp := [0x00010000, 0x00000000] })

/-- O32. A chunk of another length than N raises F_CHUNK_LEN: PLCPHY halts and nothing else changes. FLT_PROCESS_CHUNK
on an existing filter and PARSE_NEXT_SAMPLES on a free ACTIVE decoder that has a filter, with another number of
samples than N: the latch is set with code 2, the answer is E_HALTED with detail 2, and the rest of the state is as
before. (R124, R182, R190, R197, R305, R306) -/
def Obligations.WrongChunkLengthHalts : Prop :=
  (∀ (offset : Sample) (raw : List Sample) (s : State), s.halted = false → s.flt.allocated = true →
    raw.length ≠ s.flt.n.toNat →
    exec (.fltProcessChunk offset raw) s = .next { s with halted := true, fatalCode := 2, rsp := [0x0000020B] }) ∧
  (∀ (d : DecUnit) (raw : List Sample) (s : State) (c : DecCore), Admits s (.dec d) .active → s.decCore d = some c →
    raw.length ≠ c.flt.n.toNat →
    exec (Instr.parse d raw) s = .next { s with halted := true, fatalCode := 2, rsp := [0x0000020B] })

/-- O33. The OOK decoder emits each frame's data, sampled at the symbol instants, and no chunk boundary changes that.
For every threshold, rate and consistent state (R173's start length, a cursor not negative in DATA). Two runs of
outputs as one chunk give the bytes of the first chunk then those of the second, and like states. In SEARCH, after
absent outputs, a run of n75 present ones (or what an earlier chunk's run lacks of n75) starts a frame at its origin
s0, perhaps negative: with 1 <= bpd <= 8, dpf > 0, bit j is whether the output at floor((s0*MAG + floor(3*sps_num/2)
+ j*sps_num)/MAG) has carrier; where these dpf*bpd instants lie in the chunk, the bytes are dpf data of bpd bits,
most significant first, then what WAIT_IDLE gives on the outputs after the last instant. A shorter run that an
absent output breaks is dropped. WAIT_IDLE skips present outputs up to an absent one, from where SEARCH goes on with
run 0. A short run or a wait that the chunk's end cuts emits nothing and is kept. States are alike when they differ
at most in a stale pos_mag outside DATA. The bound of 3N + 6 passes on the loop of R182 is the model's (log entry
17, DEDUCED from R184). (R177, R178, R179, R180, R182, R183, R184) -/
def Obligations.OokDecodingIsChunkIndependent : Prop :=
  ∀ (thr : REAL) (sps : Nat) (r : OokRegs), r.Consistent sps →
    let decode (q : OokRegs) (ys : List REAL) : OokRegs × List Byte :=
      OokRegs.parse thr sps ys (3 * ys.length + 6) 0 q []
    let carrier (y : REAL) : Bool := Sys2Proof.Machine.Num.gt y thr
    (∀ xs ys : List REAL,
      (decode r (xs ++ ys)).2 = (decode r xs).2 ++ (decode (decode r xs).1 ys).2 ∧
      (decode r (xs ++ ys)).1.Alike (decode (decode r xs).1 ys).1) ∧
    (∀ quiet on rest : List REAL, r.phase = .search → 1 ≤ r.bpd → r.bpd ≤ 8 → r.dpf ≠ 0 →
      (∀ y ∈ quiet, carrier y = false) → (∀ y ∈ on, carrier y = true) → 0 < on.length →
      (quiet ≠ [] → on.length = r.n75.toNat) → (quiet = [] → r.run.toNat + on.length = r.n75.toNat) →
      let ys := quiet ++ on ++ rest
      let origin : Int := (quiet.length : Int) + on.length - r.n75.toNat
      let instant (j : Nat) : Nat := ((origin * 1000000 + (3 * sps / 2 : Nat) + (j * sps : Nat)) / 1000000).toNat
      let last := instant (r.bpd * r.dpf.toNat - 1)
      last < ys.length →
      let bit (j : Nat) : Nat := if carrier (ys.getD (instant j) 0) then 1 else 0
      let datum (k : Nat) : Byte :=
        BitVec.ofNat 8 (((List.range r.bpd).map (fun b => bit (k * r.bpd + b) * 2 ^ (r.bpd - 1 - b))).sum)
      let idle : OokRegs := { r with phase := .waitIdle, run := 0, datum := 0, bitcnt := 0, datacnt := r.dpf }
      (decode r ys).2 = (List.range r.dpf.toNat).map datum ++ (decode idle (ys.drop (last + 1))).2 ∧
      (decode r ys).1.Alike (decode idle (ys.drop (last + 1))).1) ∧
    (∀ (on rest : List REAL) (z : REAL), (∀ y ∈ on, carrier y = true) → carrier z = false →
      (r.phase = .search → (on ≠ [] → r.run.toNat + on.length < r.n75.toNat) →
        (decode r (on ++ z :: rest)).2 = (decode { r with run := 0 } rest).2 ∧
        (decode r (on ++ z :: rest)).1.Alike (decode { r with run := 0 } rest).1) ∧
      (r.phase = .waitIdle →
        (decode r (on ++ z :: rest)).2 = (decode { r with phase := .search, run := 0 } rest).2 ∧
        (decode r (on ++ z :: rest)).1.Alike (decode { r with phase := .search, run := 0 } rest).1)) ∧
    (∀ on : List REAL, (∀ y ∈ on, carrier y = true) →
      (r.phase = .search → r.run.toNat + on.length < r.n75.toNat →
        decode r on = ({ r with run := r.run + BitVec.ofNat 64 on.length }, [])) ∧
      (r.phase = .waitIdle → decode r on = (r, [])))

/-- O34. A confirmed PWM pulse gives its width or is noise; a Morse run adds a dash, a dot or nothing, a gap ends a
character; chunks join. PWM, from w = 0: a run of k carrier-present outputs (0 < k < 2^64) followed by exactly
confirm absent ones emits the byte round(k / sps) if it lies in 32..255 and nothing otherwise, and leaves w = wo =
0. Morse, from w = 0 and t_char > 1: a run of k present outputs and an absent one appends a dash where k >= t_dash,
else a dot where k >= t_dot, else nothing (a seventh element overflows), leaves w = 0, wo = 1, and emits one space
if a character came before and the gap before the run had t_word samples. With elements pending, the absent output
that makes the gap t_char emits the character of MORSE_TABLE with these elements, or '?', and clears them; a gap
with no element pending emits nothing. The PWM and Morse parsers of two runs of outputs in sequence equal the parser
of the runs joined: no chunk boundary matters. (R190, R191, R196, R197, R198, R200) -/
def Obligations.PwmDecodesAPulse : Prop :=
  (∀ (thr : REAL) (sps : Nat) (r : PwmRegs) (on off : List REAL), r.w = 0 → 0 < r.confirm.toNat →
    (∀ y ∈ on, Sys2Proof.Machine.Num.gt y thr = true) → (∀ y ∈ off, Sys2Proof.Machine.Num.gt y thr = false) → 0 < on.length → on.length < 2 ^ 64 →
    off.length = r.confirm.toNat →
    let v := (on.length * 1000000 + sps / 2) / sps
    PwmRegs.parse thr sps (on ++ off) r =
      ({ r with w := 0, wo := 0 }, if 32 ≤ v ∧ v ≤ 255 then [BitVec.ofNat 8 v] else [])) ∧
  (∀ (thr : REAL) (sps : Nat) (r : PwmRegs) (xs ys : List REAL),
    PwmRegs.parse thr sps (xs ++ ys) r =
      ((PwmRegs.parse thr sps ys (PwmRegs.parse thr sps xs r).1).1,
       (PwmRegs.parse thr sps xs r).2 ++ (PwmRegs.parse thr sps ys (PwmRegs.parse thr sps xs r).1).2)) ∧
  (∀ (thr : REAL) (r : MorseRegs) (xs ys : List REAL),
    MorseRegs.parse thr (xs ++ ys) r =
      ((MorseRegs.parse thr ys (MorseRegs.parse thr xs r).1).1,
       (MorseRegs.parse thr xs r).2 ++ (MorseRegs.parse thr ys (MorseRegs.parse thr xs r).1).2)) ∧
  (∀ (thr : REAL) (r : MorseRegs) (on : List REAL) (z : REAL), r.w = 0 → 1 < r.tChar.toNat →
    (∀ y ∈ on, Sys2Proof.Machine.Num.gt y thr = true) → Sys2Proof.Machine.Num.gt z thr = false → 0 < on.length →
    on.length < 2 ^ 64 →
    ∃ q : MorseRegs, MorseRegs.parse thr (on ++ [z]) r =
        (q, if r.hadChar = true ∧ r.tWord.toNat ≤ r.wo.toNat then [0x20] else []) ∧
      q.w = 0 ∧ q.wo = 1 ∧ { q with w := r.w, wo := r.wo, codeLen := r.codeLen, codeBits := r.codeBits } = r ∧
      let appended (dash : Bool) : Prop :=
        (r.codeLen < 6 → q.codeLen = r.codeLen + 1 ∧
          codeElements q.codeLen q.codeBits = codeElements r.codeLen r.codeBits ++ [dash]) ∧
        (6 ≤ r.codeLen → q.codeLen = 7)
      (r.tDash.toNat ≤ on.length → appended true) ∧
      (on.length < r.tDash.toNat → r.tDot.toNat ≤ on.length → appended false) ∧
      (on.length < r.tDash.toNat → on.length < r.tDot.toNat → q.codeLen = r.codeLen ∧ q.codeBits = r.codeBits)) ∧
  (∀ (thr : REAL) (r : MorseRegs) (off : List REAL), r.w = 0 → 0 < r.codeLen → r.wo.toNat < r.tChar.toNat →
    (∀ y ∈ off, Sys2Proof.Machine.Num.gt y thr = false) → off.length = r.tChar.toNat - r.wo.toNat →
    ∃ c : Byte, MorseRegs.parse thr off r =
        ({ r with wo := r.tChar, codeLen := 0, codeBits := 0, hadChar := true }, [c]) ∧
      (r.codeLen ≠ 7 → ∀ row ∈ morseTable, row.code = codeElements r.codeLen r.codeBits → c = row.char) ∧
      ((r.codeLen = 7 ∨ ∀ row ∈ morseTable, row.code ≠ codeElements r.codeLen r.codeBits) → c = 0x3F)) ∧
  (∀ (thr : REAL) (r : MorseRegs) (off : List REAL), r.w = 0 → r.codeLen = 0 → r.wo.toNat + off.length < 2 ^ 64 →
    (∀ y ∈ off, Sys2Proof.Machine.Num.gt y thr = false) →
    MorseRegs.parse thr off r = ({ r with wo := r.wo + BitVec.ofNat 64 off.length }, []))

/-- O35. TERMINATE destroys the filter, returns to IDLE and keeps dout, emitting nothing. For the four decoders, free
and ACTIVE: the answer is OK, lc is IDLE, the filter (but for DEC_RAW, which has none) has exists = valid = 0, and
nothing else changes: dout and the working registers are kept. That the destroyed filter's arrays and capture keep
their values is the model's choice (log entry 11: R132 leaves them unspecified). (R132, R176) -/
def Obligations.TerminateEndsADecoderSession : Prop :=
  (∀ (d : DecUnit) (s : State) (f : Flt), Admits s (.dec d) .active → s.decFlt d = some f →
    exec (Instr.terminate d) s =
      .next { (s.setDecFlt d { f with allocated := false, valid := false }).setPlug (.dec d)
                { s.plug (.dec d) with lc := .idle } with rsp := [0x00000000] }) ∧
  (∀ s : State, Admits s (.dec .raw) .active →
    exec .terminateDecRaw s =
      .next { s with decRaw := { s.decRaw with plug := { s.decRaw.plug with lc := .idle } }, rsp := [0x00000000] })

/-- O36. READ_DECODED answers the first bytes of dout as a byte string and removes exactly those; legal while busy. For
the four decoders that exist, busy or not: with L the smaller of m and the bytes held, the answer is OK with 1 +
ceil(L/4) words, the length L and the packed bytes; dout loses its first L bytes, and nothing else changes. (R205) -/
def Obligations.ReadDecodedTakesBytesInOrder : Prop :=
  ∀ (d : DecUnit) (m : BitVec 16) (s : State), s.halted = false → (s.plug (.dec d)).lc ≠ .absent →
    let len := min m.toNat (s.dout d).length
    exec (Instr.readDecoded d m) s =
      .next { s.setDout d ((s.dout d).drop len) with
                rsp := (BitVec.ofNat 16 (1 + (len + 3) / 4) ++ (0 : BitVec 16)) :: BitVec.ofNat 32 len ::
                  packBytes ((s.dout d).take len) }

/-- O37. FLT_READ_CAPTURE and READ_CAPTURE answer the first values captured, in order, and consume nothing. For the
standalone filter and, busy or not, for the filter of an ACTIVE DEC_OOK, DEC_PWM or DEC_MORSE: with c the smaller of
m and the number captured, the answer is OK, the count c and c words, of which word k is the value captured at k; no
other state changes. (A value not captured is free, log entry 10.) A read of 65,535 values answers 65,536 words,
more than rlen can count: rlen is then a free value (log entry 4, DESIGN CHOICE). (R131, R206) -/
def Obligations.CaptureReadsGiveTheFirstValues : Prop :=
  let answers (f : Flt) (m : BitVec 16) (i : Instr) (s : State) : Prop :=
    ∃ vals, exec i s = .next { s with rsp := statusWord .ok 0 (vals.length + 1) :: BitVec.ofNat 32 vals.length :: vals } ∧
      vals.length = min m.toNat (f.capLen - f.capRem) ∧
      ∀ k v, k < vals.length → Memory.read f.cap k = some v → vals[k]? = some (Sys2Proof.Machine.Num.toBits v)
  (∀ (m : BitVec 16) (s : State), s.halted = false → s.flt.allocated = true → answers s.flt m (.fltReadCapture m) s) ∧
  (∀ (m : BitVec 16) (s : State), s.halted = false → s.decOok.core.plug.lc = .active →
    s.decOok.core.flt.allocated = true → answers s.decOok.core.flt m (.readCaptureDecOok m) s) ∧
  (∀ (m : BitVec 16) (s : State), s.halted = false → s.decPwm.core.plug.lc = .active →
    s.decPwm.core.flt.allocated = true → answers s.decPwm.core.flt m (.readCaptureDecPwm m) s) ∧
  (∀ (m : BitVec 16) (s : State), s.halted = false → s.decMorse.core.plug.lc = .active →
    s.decMorse.core.flt.allocated = true → answers s.decMorse.core.flt m (.readCaptureDecMorse m) s)

/-- O38. RESET zeroes exactly the working registers and enters ACTIVE; generation then starts again from the first
sample. For the five encoders, free, ready, in IDLE or ACTIVE: the answer is OK, the working registers of the unit's
rule are 0, lc is ACTIVE, nothing else changes. And after any number of generated samples RESET leads to the same
state as before them, so the sequence is the same again. (R213, R223, R228, R233, R238, R242) -/
def Obligations.ResetRestartsGeneration : Prop :=
  (∀ (e : EncUnit) (s : State), (Admits s (.enc e) .idle ∨ Admits s (.enc e) .active) →
    (s.plug (.enc e)).ready = true →
    ∃ t, exec (Instr.reset e) s = .next t ∧ t.rsp = [0x00000000] ∧ OnlyUnit (.enc e) s t ∧
      t.plug (.enc e) = { s.plug (.enc e) with lc := .active } ∧
      (e = .wave → t.encWave = { s.encWave with plug := t.encWave.plug, phase := 0, sweepIter := 0, sweepN := 0 }) ∧
      (e = .wav → t.encWav = { s.encWav with plug := t.encWav.plug, pbIdx := 0, pbDone := false }) ∧
      (e = .ook → t.encOok = { s.encOok with plug := t.encOok.plug, segIdx := 0, acc := 0, curOn := false, done := false,
                                             phase := 0 }) ∧
      (e = .pwm → t.encPwm = { s.encPwm with plug := t.encPwm.plug, segIdx := 0, acc := 0, curOn := false, done := false,
                                             phase := 0 }) ∧
      (e = .morse → t.encMorse = { s.encMorse with plug := t.encMorse.plug, segIdx := 0, acc := 0, curOn := false,
                                                   done := false, phase := 0 })) ∧
  (∀ (e : EncUnit) (k : Nat) (s : State), resetBody e (encSamples e k s).2 = resetBody e s)

/-- O39. PREPARE_NEXT_SAMPLES answers the unit's next k samples, each a TX sample, and can be split anywhere. For the
five encoders, free and ACTIVE, and every k: the answer is OK with ceil(k/2) words that hold the unit's next k
samples in order (each sample(u) applied once), every one in 0..TX_MAX where the unit's levels are; the plugin
registers and everything outside the unit are unchanged. Generating k1 + k2 samples gives what generating k1 and
then k2 gives, samples and state. (R94, R211, R214, R224, R229, R234, R243, R237) -/
def Obligations.PrepareGeneratesSamples : Prop :=
  (∀ (e : EncUnit) (k : BitVec 16) (s : State), Admits s (.enc e) .active →
    ∃ t out, exec (Instr.prepare e k) s = .next t ∧
      encSamples e k.toNat s = (out, { t with rsp := s.rsp }) ∧ out.length = k.toNat ∧
      t.rsp = (BitVec.ofNat 16 ((k.toNat + 1) / 2) ++ (0 : BitVec 16)) :: packSamples out ∧
      (LevelInv s → ∀ v ∈ out, v.toNat ≤ 1023) ∧ t.plug (.enc e) = s.plug (.enc e) ∧ OnlyUnit (.enc e) s t) ∧
  (∀ (e : EncUnit) (k₁ k₂ : Nat) (s : State),
    encSamples e (k₁ + k₂) s =
      ((encSamples e k₁ s).1 ++ (encSamples e k₂ (encSamples e k₁ s).2).1, (encSamples e k₂ (encSamples e k₁ s).2).2))

/-- O40. One sample of the wave encoder is its shape's formula at the present phase, and the phase moves on by efw.
Constant, ramp, triangular, square and sine: the sample is the clamped value of R214 at phase p, phase becomes p +
efw modulo 2^32, and no other register changes. A sweep in iteration i at sample n gives entry n of row i of sw_lut
where it is precomputed and the tone of R216 at phase n * sw_fw[i] where it is not; then sweep_n is n + 1, or, at
the end of the iteration, 0 with sweep_iter (i + 1) mod K; the phase moves on as for every shape and no other
register changes. For a sine whose amplitude is 200, the sample at the quarter points of the cycle is exact: offset,
offset + 200, offset, offset - 200 in 0..TX_MAX. (R16, R214, R216) -/
def Obligations.WaveShapesFollowTheirFormulas : Prop :=
  (∀ u : EncWave,
    let p := u.phase.toNat
    let rng := u.rng.toNat
    let clamp (v : Int) : Sample := BitVec.ofNat 16 (min v.toNat 1023)
    (u.stype = 0 → u.sample = (clamp (u.plug.num 17), { u with phase := u.phase + u.efw })) ∧
    (u.stype = 1 → u.sample = (clamp (u.lo + (p * rng / 2 ^ 32 : Nat)), { u with phase := u.phase + u.efw })) ∧
    (u.stype = 2 → u.sample =
      (clamp (u.lo + ((if p < 2 ^ 31 then p else 2 ^ 32 - p) * rng / 2 ^ 31 : Nat)), { u with phase := u.phase + u.efw })) ∧
    (u.stype = 3 → u.sample =
      (clamp (if p < 2 ^ 31 then u.lo + (rng : Int) else u.lo), { u with phase := u.phase + u.efw })) ∧
    (u.stype = 4 → u.sample =
      (clamp ((u.plug.num 17 : Int) + Sys2Proof.Machine.Num.rnd (Sys2Proof.Machine.Num.mul (Sys2Proof.Machine.Num.ofInt u.amp.toNat) (Sys2Proof.Machine.Num.sinw u.phase))),
        { u with phase := u.phase + u.efw })) ∧
    (u.stype = 5 → ∀ fw len : BitVec 32,
      let i := u.sweepIter.toNat
      let n := u.sweepN.toNat
      u.swFw[i]? = some fw → u.swLen[i]? = some len →
      let moved : EncWave := { u with
        phase := u.phase + u.efw, sweepN := if u.sweepN + 1 = len then 0 else u.sweepN + 1,
        sweepIter := if u.sweepN + 1 = len then BitVec.ofNat 32 ((i + 1) % u.k.toNat) else u.sweepIter }
      (u.plug.num 23 ≠ 1 → u.sample =
        (clamp ((u.plug.num 17 : Int) + Sys2Proof.Machine.Num.rnd (Sys2Proof.Machine.Num.mul
          (Sys2Proof.Machine.Num.ofInt u.amp.toNat) (Sys2Proof.Machine.Num.sinw (BitVec.ofNat 32 n * fw)))), moved)) ∧
      (u.plug.num 23 = 1 → ∀ row v, u.swLut[i]? = some row → row[n]? = some v → u.sample = (v, moved)))) ∧
  Sys2Proof.Machine.Num.rnd (Sys2Proof.Machine.Num.mul (Sys2Proof.Machine.Num.ofInt 200) (Sys2Proof.Machine.Num.sinw 0x00000000#32)) = 0 ∧
  Sys2Proof.Machine.Num.rnd (Sys2Proof.Machine.Num.mul (Sys2Proof.Machine.Num.ofInt 200) (Sys2Proof.Machine.Num.sinw 0x40000000#32)) = 200 ∧
  Sys2Proof.Machine.Num.rnd (Sys2Proof.Machine.Num.mul (Sys2Proof.Machine.Num.ofInt 200) (Sys2Proof.Machine.Num.sinw 0x80000000#32)) = 0 ∧
  Sys2Proof.Machine.Num.rnd (Sys2Proof.Machine.Num.mul (Sys2Proof.Machine.Num.ofInt 200) (Sys2Proof.Machine.Num.sinw 0xC0000000#32)) = -200

/-- O41. After RESET, sample n of a bit-stream encoder belongs to segment j exactly when T_j <= n * MAG < T_(j+1). For
every segment list (shorter than 2^32) and every rate: sample n after RESET is generated in segment j where T_j <= n
* MAG < T_(j+1), with that segment's level, at the carrier phase n * efw: the clamped carrier sample where the
segment is on, lvl0 where it is off; and it is lvl0, with done = 1, where n * MAG >= T of the whole list. Boundaries
never drift. The model holds acc as an integer, so this reaches past the segments of 2^62 that END_SETTINGS admits
(log entry 16, DEDUCED). (R220, R236) -/
def Obligations.SegmentsKeepExactTime : Prop :=
  ∀ (u : EncSeq) (n : Nat), u.segIdx = 0 → u.acc = 0 → u.done = false → u.phase = 0 → u.segs.length < 2 ^ 32 →
    let v := (u.after n).sample
    let start (j : Nat) : Nat := segmentStart u.segs u.spsNum.toNat j
    (∀ j g, u.segs[j]? = some g → start j ≤ n * 1000000 → n * 1000000 < start (j + 1) →
      v.2.done = false ∧ v.2.curOn = g.on ∧ v.2.segIdx.toNat = j + 1 ∧
        v.1 = if g.on then toneSample (u.plug.num 17) u.amp (Sys2Proof.Machine.Num.cosw (BitVec.ofNat 32 n * u.efw)) else u.lvl0) ∧
    (start u.segs.length ≤ n * 1000000 → v.2.done = true ∧ v.1 = u.lvl0)

/-- O42. After RESET, sample n of a playback is its sound's sample n rescaled, then the idle level, or the sound again
where it repeats. Sample n after RESET, for every n. Played once: for n < pb_count it is the 8-bit value times 1024
div 256, or the signed little-endian 16-bit value plus 32768 times 1024 div 65536, of the bytes PBM holds; every
later sample is lvl0. With repeat = 1 and a sound that is not empty it is the same of sample n mod pb_count. An
empty sound gives lvl0 throughout. (R66, R67, R243) -/
def Obligations.PlaybackRescalesTheSound : Prop :=
  ∀ (u : EncWav) (pbm : List Host.Cell) (n : Nat), u.pbIdx = 0 → u.pbDone = false →
    let v := ((u.after pbm n).sample pbm).1
    let count := u.pbCount.toNat
    let plays (k : Nat) : Prop :=
      (∀ b : Byte, u.pbBits = 8 → Memory.read pbm k = some b → v = BitVec.ofNat 16 (b.toNat * 1024 / 256)) ∧
      (∀ lo hi : Byte, u.pbBits = 16 → Memory.read pbm (2 * k) = some lo →
        Memory.read pbm (2 * k + 1) = some hi →
        v = BitVec.ofNat 16 (((hi ++ lo : BitVec 16).toInt + 32768) * 1024 / 65536).toNat)
    (u.rep = false → (n < count → plays n) ∧ (count ≤ n → v = u.lvl0)) ∧
    (u.rep = true → 0 < count → plays (n % count)) ∧
    (count = 0 → v = u.lvl0)

/-- O43. PB_LOAD writes the descriptor and the bytes of PBM from 0 on, clears ready, and leaves every other byte of PBM.
ENC_WAV, free, in IDLE or CONFIG, with at most PB_MAX bytes: the answer is OK; the four descriptor registers are
written, ready is 0; PBM byte k is data byte k for every k below the length, and every byte from the length on reads
as before; nothing else changes. (R66, R240) -/
def Obligations.PbLoadStoresTheSound : Prop :=
  ∀ (format channels bits : BitVec 16) (data : List Byte) (s : State),
    (Admits s (.enc .wav) .idle ∨ Admits s (.enc .wav) .config) → data.length ≤ 1048576 →
    ∃ t, exec (.pbLoad format channels bits data) s = .next t ∧ t.rsp = [0x00000000] ∧
      t.encWav = { s.encWav with pbFormat := format, pbChannels := channels, pbBits := bits,
                                 pbBytes := BitVec.ofNat 32 data.length,
                                 plug := { s.encWav.plug with ready := false } } ∧
      (∀ k, k < data.length → Memory.read t.pbm k = data[k]?) ∧
      (∀ a, data.length ≤ a → Memory.read t.pbm a = Memory.read s.pbm a) ∧
      (∀ v, v ≠ .enc .wav → t.regs v = s.regs v) ∧ t.system = { s.system with pbm := t.pbm } ∧ t.ports = s.ports

/-- O44. FLT_CREATE makes a filter with a zero history, or halts where its order exceeds the chunk size. With no filter
there, N not 0, 1 to 16 coefficients of each kind and a first feedback coefficient that is not +0 or -0: where
max(NA, NB) - 1 <= N the answer is OK and every register of the filter is as R121 says, the coefficients being the
REALs of the patterns HOST writes (R14); where it is greater, PLCPHY halts with F_FILTER_ORDER and answers E_HALTED,
detail 1. Nothing else changes. (R121, R305) -/
def Obligations.FltCreateMakesAFilter : Prop :=
  ∀ (n : BitVec 16) (a b : List Real32) (s : State), s.halted = false → s.flt.allocated = false → n ≠ 0 →
    1 ≤ a.length → a.length ≤ 16 → 1 ≤ b.length → b.length ≤ 16 → (a.getD 0 0).toNat % 2 ^ 31 ≠ 0 →
    let order := max a.length b.length - 1
    (order ≤ n.toNat → exec (.fltCreate n a b) s =
      .next { s with
        flt := { allocated := true, n := n, a := a.map Sys2Proof.Machine.Num.ofBits, b := b.map Sys2Proof.Machine.Num.ofBits, p := order,
                 xb := List.replicate (order + n.toNat) (Sys2Proof.Machine.Num.ofInt 0),
                 yb := List.replicate (order + n.toNat) (Sys2Proof.Machine.Num.ofInt 0), valid := false, demod := .none, fw := 0,
                 phase := 0, capLen := 0, capRem := 0, cap := [] },
        rsp := [0x00000000] }) ∧
    (n.toNat < order → exec (.fltCreate n a b) s =
      .next { s with halted := true, fatalCode := 1, rsp := [0x0000010B] })

/-- O45. The FLT commands on an existing filter configure it, process a chunk, show the output and release it. On an
existing filter: FLT_SET_DEMOD with mode 0, 1 or 2 writes demod, fw and phase 0; FLT_SET_CAPTURE with at most
CAP_MAX writes cap_len and cap_rem, and what was captured is gone; FLT_RELEASE writes exists and valid 0. A chunk of
N samples answers OK and only the filter changes, to the result of flt_process_chunk, with valid = 1; where valid =
1 FLT_READ_OUTPUT answers OK, the word N and the words of the current chunk of outputs. Each changes nothing else.
The kept arrays of a released filter are the model's choice (log entry 11), as is that values captured before are
free (log entry 10) and, for N = 65,535, the rlen field (log entry 4). (R122, R123, R132, R124, R130) -/
def Obligations.FltCommandsOnAnExistingFilter : Prop :=
  (∀ s : State, s.halted = false → s.flt.allocated = true →
    (∀ (mode : BitVec 16) (fw : Word) (d : Demod), mode.toNat = (match d with | .none => 0 | .abs => 1 | .cos => 2) →
      exec (.fltSetDemod mode fw) s =
        .next { s with flt := { s.flt with demod := d, fw := fw, phase := 0 }, rsp := [0x00000000] }) ∧
    (∀ count : Word, count.toNat ≤ 65536 →
      exec (.fltSetCapture count) s =
        .next { s with flt := { s.flt with capLen := count.toNat, capRem := count.toNat, cap := [] },
                       rsp := [0x00000000] }) ∧
    exec .fltRelease s =
      .next { s with flt := { s.flt with allocated := false, valid := false }, rsp := [0x00000000] }) ∧
  ((∀ (offset : Sample) (raw : List Sample) (s : State), s.halted = false → s.flt.allocated = true →
    raw.length = s.flt.n.toNat →
    ∃ f, s.flt.processChunk raw offset = .ok f ∧ f.valid = true ∧ f.allocated = true ∧ f.n = s.flt.n ∧
      exec (.fltProcessChunk offset raw) s = .next { s with flt := f, rsp := [0x00000000] }) ∧
  (∀ s : State, s.halted = false → s.flt.allocated = true → s.flt.valid = true →
    let ys := (s.flt.yb.drop s.flt.p).take s.flt.n.toNat
    exec .fltReadOutput s =
      .next { s with rsp := statusWord .ok 0 (1 + ys.length) :: BitVec.ofNat 32 s.flt.n.toNat :: ys.map Sys2Proof.Machine.Num.toBits }))

/-- O46. A processed chunk shifts the history, demodulates every sample and evaluates the difference equation at every
output. For a filter of order P <= N with histories of P + N values: after a chunk the first P entries of xb and yb
are entries N to N+P-1 of before; entry P+i of xb is sample i less the offset, its absolute value, or its product
with the cosine at phase + i*fw, as the mode says; entry P+i of yb is (sum b_k x[n-k] - sum a_k y[n-k]) / a_0 over
these arrays with the operations in the order of R127; the phase has moved on by N*fw, and the capture has stored
the next outputs until exhausted, leaving earlier values. (R125, R126, R127, R128) -/
def Obligations.FilterEvaluatesTheDifferenceEquation : Prop :=
  ∀ (f g : Flt) (raw : List Sample) (off : Sample), f.processChunk raw off = .ok g →
    f.p = max f.a.length f.b.length - 1 → f.p ≤ f.n.toNat → f.xb.length = f.p + f.n.toNat →
    f.yb.length = f.p + f.n.toNat → f.capRem ≤ f.capLen →
    g.xb.length = f.p + f.n.toNat ∧ g.yb.length = f.p + f.n.toNat ∧
    (∀ k, k < f.p → g.xb[k]? = f.xb[f.n.toNat + k]? ∧ g.yb[k]? = f.yb[f.n.toNat + k]?) ∧
    (∀ i, i < f.n.toNat → g.xb[f.p + i]? =
      (raw[i]?).map (fun r =>
        let d : Int := (r.toNat : Int) - (off.toNat : Int)
        match f.demod with
        | .none => Sys2Proof.Machine.Num.ofInt d
        | .abs => Sys2Proof.Machine.Num.ofInt (d.natAbs : Int)
        | .cos => Sys2Proof.Machine.Num.mul (Sys2Proof.Machine.Num.ofInt d)
            (Sys2Proof.Machine.Num.cosw (f.phase + BitVec.ofNat 32 i * f.fw)))) ∧
    (∀ i, i < f.n.toNat → g.yb[f.p + i]? =
      some (Sys2Proof.Machine.Num.div (Sys2Proof.Machine.Num.sub (tapSum f.b g.xb (f.p + i) 0) (tapSum f.a g.yb (f.p + i) 1)) (f.a.getD 0 0))) ∧
    g.phase = f.phase + BitVec.ofNat 32 f.n.toNat * f.fw ∧ g.valid = true ∧ g.capRem = f.capRem - f.n.toNat ∧
    (∀ i, i < min f.capRem f.n.toNat → Memory.read g.cap (f.capLen - f.capRem + i) = g.yb[f.p + i]?) ∧
    (∀ k, k < f.capLen - f.capRem → Memory.read g.cap k = Memory.read f.cap k)

/-- O47. One filter of chunk size L and one of chunk size M, M dividing L, give bit-identical outputs. For all
coefficients, demodulators and offsets: a new filter of chunk size L processing a sequence of L samples in one
chunk, and a new one of chunk size M, where M divides L and the order is at most M, processing the same samples in
L/M chunks of M, produce the same outputs, REAL for REAL. (R129) -/
def Obligations.FilteringIsChunkIndependent : Prop :=
  ∀ (l m : BitVec 16) (a b : List REAL) (mode : Demod) (fw : BitVec 32) (off : Sample) (chunks : List (List Sample))
    (f₁ f₂ g₁ : Flt),
    0 < m.toNat → l.toNat = m.toNat * chunks.length → filterOrder a b ≤ m.toNat →
    fltCreate l a b = .ok f₁ → fltCreate m a b = .ok f₂ → (∀ c ∈ chunks, c.length = m.toNat) →
    (f₁.setDemod mode fw).processChunk chunks.flatten off = .ok g₁ →
    ∃ g₂ ys, Flt.processChunks off chunks (f₂.setDemod mode fw) = .ok (g₂, ys) ∧ ys = g₁.output

/-- O48. TX_BIND and RX_BIND bind a unit of the right kind, unbinding the one before; the wrong kind fails the ABI
check. With the scheduler IDLE and the unit created: TX_BIND of an encoder's number and RX_BIND of a decoder's
unbind the unit bound before, set the unit's bound register and the scheduler's, answer OK and change nothing else.
A unit number of the other kind answers E_ABI, detail 4, and changes nothing; a number that is no plugin unit
answers E_OUT_OF_RANGE. (R261, R262, R263) -/
def Obligations.BindGivesASchedulerItsUnit : Prop :=
  (∀ (e : EncUnit) (unit : BitVec 16) (s : State), unit.toNat = (encNumber e).toNat → s.halted = false →
    s.txs.state = .idle → (s.plug (.enc e)).lc ≠ .absent →
    let s₁ := match s.txs.enc with
      | some o => s.setPlug (.enc o) { s.plug (.enc o) with bound := .unbound }
      | none => s
    exec (.txBind unit) s =
      .next { s₁.setPlug (.enc e) { s₁.plug (.enc e) with bound := .tx } with
                txs := { s.txs with enc := some e }, rsp := [0x00000000] }) ∧
  (∀ (d : DecUnit) (unit : BitVec 16) (s : State), unit.toNat = (decNumber d).toNat → s.halted = false →
    s.rxs.state = .idle → (s.plug (.dec d)).lc ≠ .absent →
    let s₁ := match s.rxs.dec with
      | some o => s.setPlug (.dec o) { s.plug (.dec o) with bound := .unbound }
      | none => s
    exec (.rxBind unit) s =
      .next { s₁.setPlug (.dec d) { s₁.plug (.dec d) with bound := .rx } with
                rxs := { s.rxs with dec := some d }, rsp := [0x00000000] }) ∧
  (∀ (unit : BitVec 16) (s : State), s.halted = false →
    (s.txs.state = .idle → unit.toNat ∈ [1, 2, 3, 4] → exec (.txBind unit) s = .next { s with rsp := [0x00000409] }) ∧
    (s.rxs.state = .idle → unit.toNat ∈ [8, 9, 10, 11, 12] →
      exec (.rxBind unit) s = .next { s with rsp := [0x00000409] }) ∧
    (unit.toNat ∉ [1, 2, 3, 4, 8, 9, 10, 11, 12] →
      (s.txs.state = .idle → exec (.txBind unit) s = .next { s with rsp := [0x00000006] }) ∧
      (s.rxs.state = .idle → exec (.rxBind unit) s = .next { s with rsp := [0x00000006] })))

/-- O49. TX_START and RX_START start the bound unit as RESET or INITIALIZE would, and open a session with zeroed
registers. IDLE, a bound unit that is ready (a decoder in IDLE; an encoder in IDLE or ACTIVE), a length that is not
0 and a transport that is not busy: the answer is OK; the unit is as RESET or INITIALIZE with that length leaves it;
the session registers of R267 or R281 are set, every buffer is the scheduler's, none filled, the event queue is
empty; nothing else changes. (R267, R281) -/
def Obligations.StartsOpenASession : Prop :=
  (∀ (e : EncUnit) (n : BitVec 16) (s : State), s.halted = false → s.txs.state = .idle → n ≠ 0 →
    s.txs.enc = some e → s.busy (.enc e) = false → ((s.plug (.enc e)).lc = .idle ∨ (s.plug (.enc e)).lc = .active) →
    (s.plug (.enc e)).ready = true → s.txBusy = false →
    ∃ t₀, exec (Instr.reset e) s = .next t₀ ∧ exec (.txStart n) s =
      .next { t₀ with
        txs := { s.txs with state := .preloading, phase := .check, n := n, fillIdx := 0, inflight := none,
                            stopReq := false, forced := false, cycles := 0, dueNs := 0, dueRem := 0 },
        txPool := s.txPool.map (fun b => { b with owner := .sched }), txFilled := s.txFilled.map (fun _ => false),
        txQueue := [], rsp := [0x00000000] }) ∧
  (∀ (d : DecUnit) (n : BitVec 16) (s : State), s.halted = false → s.rxs.state = .idle → n ≠ 0 →
    s.rxs.dec = some d → s.busy (.dec d) = false → (s.plug (.dec d)).lc = .idle → (s.plug (.dec d)).ready = true →
    s.rxBusy = false →
    ∃ t₀, exec (Instr.start d n) s = .next t₀ ∧ exec (.rxStart n) s =
      .next { t₀ with
        rxs := { s.rxs with state := .armed, phase := .check, n := n, wrIdx := 0, rdIdx := 0, pending := 0,
                            armedBuf := none, stopReq := false, forced := false, captured := 0, timeouts := 0 },
        rxPool := s.rxPool.map (fun b => { b with owner := .sched }), rxQueue := [], rsp := [0x00000000] })

/-- O50. TX_STOP and RX_STOP answer OK at once when IDLE; in a session they set stop_req and withhold the response. Not
halted: with the scheduler IDLE the answer is OK and nothing else changes; otherwise stop_req is 1, no response is
given yet (none stands in the model's rsp, log entry 3) and HOST waits for that direction; nothing else changes.
(R275, R289, R290) -/
def Obligations.StopsRequestAndWait : Prop :=
  ∀ s : State, s.halted = false →
    (s.txs.state = .idle → exec .txStop s = .next { s with rsp := [0x00000000] }) ∧
    (s.txs.state ≠ .idle →
      exec .txStop s = .next { s with txs := { s.txs with stopReq := true }, stopWait := some .tx, rsp := [] }) ∧
    (s.rxs.state = .idle → exec .rxStop s = .next { s with rsp := [0x00000000] }) ∧
    (s.rxs.state ≠ .idle →
      exec .rxStop s = .next { s with rxs := { s.rxs with stopReq := true }, stopWait := some .rx, rsp := [] })

/-- O51. TX_STATUS and RX_STATUS answer the scheduler's registers at their places and change nothing. Not halted:
TX_STATUS answers three words and RX_STATUS six, with every field of R95 at its place (0xFF for NONE, 64-bit
counters low word first), and no other state changes. (R95, R277, R291) -/
def Obligations.StatusReadsShowTheSchedulers : Prop :=
  (∀ s : State, s.halted = false →
    ∃ w : Word, exec .txStatus s =
        .next { s with rsp := [0x00030000, w, s.txs.cycles.setWidth 32, (s.txs.cycles >>> 32).setWidth 32] } ∧
      w.extractLsb' 0 3 = s.txs.state.code.setWidth 3 ∧ w.extractLsb' 3 3 = s.txs.phase.code.setWidth 3 ∧
      w.getLsbD 6 = s.txs.stopReq ∧ w.getLsbD 7 = s.txs.forced ∧
      w.extractLsb' 8 8 = (match s.txs.inflight with | some j => BitVec.ofNat 8 j | none => 0xFF) ∧
      w.extractLsb' 16 8 = BitVec.ofNat 8 s.txs.fillIdx ∧
      w.extractLsb' 24 8 = (match s.txs.enc with | some e => encNumber e | none => 0xFF)) ∧
  (∀ s : State, s.halted = false →
    ∃ w : Word, exec .rxStatus s =
        .next { s with rsp := [0x00060000, w,
                               (0 : BitVec 16) ++ BitVec.ofNat 8 s.rxs.pending ++ BitVec.ofNat 8 s.rxs.rdIdx,
                               s.rxs.captured.setWidth 32, (s.rxs.captured >>> 32).setWidth 32,
                               s.rxs.timeouts.setWidth 32, (s.rxs.timeouts >>> 32).setWidth 32] } ∧
      w.extractLsb' 0 3 = s.rxs.state.code.setWidth 3 ∧ w.extractLsb' 3 3 = s.rxs.phase.code.setWidth 3 ∧
      w.getLsbD 6 = s.rxs.stopReq ∧ w.getLsbD 7 = s.rxs.forced ∧
      w.extractLsb' 8 8 = (match s.rxs.armedBuf with | some j => BitVec.ofNat 8 j | none => 0xFF) ∧
      w.extractLsb' 16 8 = BitVec.ofNat 8 s.rxs.wrIdx ∧
      w.extractLsb' 24 8 = (match s.rxs.dec with | some d => decNumber d | none => 0xFF))

/-- O52. SYS_STATUS answers the latch, the fatal code and version 1.0, halted or not, and changes nothing. The word
0x3FFF0000 is SYS_STATUS. In every state, halted or not, it answers OK and one word: bit 0 halted, bits 15..8
fatal_code, bits 23..16 the major version 1, bits 31..24 the minor version 0, every other bit 0; no other state
changes. After reset the word is 0x00010000; with F_CHUNK_LEN raised it is 0x00010201. (R308) -/
def Obligations.SysStatusShowsTheLatch : Prop :=
  decode [0x3FFF0000] = .instr .sysStatus [] ∧
  (∀ s : State,
    ∃ w : Word, exec .sysStatus s = .next { s with rsp := [0x00010000, w] } ∧ w.getLsbD 0 = s.halted ∧
      w.extractLsb' 1 7 = 0 ∧ w.extractLsb' 8 8 = s.fatalCode ∧ w.extractLsb' 16 8 = 1 ∧ w.extractLsb' 24 8 = 0) ∧
  exec .sysStatus State.reset = .next { State.reset with rsp := [0x00010000, 0x00010000] } ∧
  ∀ s : State, s.halted = false →
    exec .sysStatus (s.raiseFatal .chunkLen) = .next { s.raiseFatal .chunkLen with rsp := [0x00010000, 0x00010201] }

/-- O53. An event word joins its direction's queue and ends TRANSPORT's hold of the buffer; a request word is taken.
EV_TX_SENT and EV_RX_CAPTURED append their word to the TX or RX event queue, halted or not, and TRANSPORT may no
longer touch the buffer named, whether or not it has taken the request (R354 (1)). REQ_TX_SEND and REQ_RX_CAPTURE
tell TRANSPORT the buffer and count to work on, REQ_RX_ABORT that the buffer is taken back: what TRANSPORT may touch
and what it has been told are the model's own fields (log entry 6), no registers of PLCPHY. Nothing else changes.
That a halted PLCPHY still queues events is log entry 8 (DEDUCED); that a word naming a buffer TRANSPORT does not
own is queued too, to be discarded when its scheduler pops it, is log entry 5 (DEDUCED from R312, where R102 says it
is ignored). (R102, R312, R354) -/
def Obligations.EventPortWordsMoveBuffersOnly : Prop :=
  (∀ (buf : Byte) (count : BitVec 16) (s : State),
    exec (.evTxSent buf count) s =
      .next { s with txQueue := s.txQueue ++ [(0x80 : BitVec 8) ++ buf ++ count],
                     txHas := if s.txHas = some buf then none else s.txHas,
                     txGrant := if s.txGrant.map (·.buf) = some buf then none else s.txGrant } ∧
    exec (.evRxCaptured buf count) s =
      .next { s with rxQueue := s.rxQueue ++ [(0x81 : BitVec 8) ++ buf ++ count],
                     rxHas := if s.rxHas = some buf then none else s.rxHas,
                     rxGrant := if s.rxGrant.map (·.buf) = some buf then none else s.rxGrant } ∧
    exec (.reqTxSend buf count) s = .next { s with txGrant := some ⟨buf, count⟩ } ∧
    exec (.reqRxCapture buf count) s = .next { s with rxGrant := some ⟨buf, count⟩ } ∧
    exec (.reqRxAbort buf count) s =
      .next { s with rxGrant := if s.rxGrant.map (·.buf) = some buf then none else s.rxGrant })

/-- O54. RXS: ARMED and RUNNING.CHECK go to STOPPING where stop_req is 1; CHECK otherwise chooses the next phase. The
ARMED step goes to STOPPING where stop_req = 1, else to RUNNING in phase CHECK. The CHECK step goes to STOPPING
where stop_req = 1; else to TRIGGER where nothing is armed, to DISPATCH where a buffer is pending, to WAIT
otherwise. Nothing else changes. (The stop flag is polled there once per iteration, and no other RUNNING phase looks
at it: a timeout leads back to CHECK.) (R282, R283) -/
def Obligations.RxCheckPollsTheStopFlag : Prop :=
  (∀ s : State, s.halted = false → s.rxs.state = .armed →
    rxsStep s = .next (if s.rxs.stopReq then { s with rxs := { s.rxs with state := .stopping } }
                       else { s with rxs := { s.rxs with state := .running, phase := .check } })) ∧
  (∀ s : State, s.halted = false → s.rxs.state = .running → s.rxs.phase = .check →
    rxsStep s = .next { s with rxs :=
      if s.rxs.stopReq then { s.rxs with state := .stopping }
      else if s.rxs.armedBuf = none then { s.rxs with phase := .trigger }
      else if s.rxs.pending > 0 then { s.rxs with phase := .dispatch }
      else { s.rxs with phase := .wait } }) ∧
  (∀ s : State, captureTimeoutEnabled s = true → (captureTimeoutStep s).rxs.phase = .check ∧
    (captureTimeoutStep s).rxs.state = .running) ∧
  (∀ s t : State, s.halted = false → s.rxs.state = .running → s.rxs.phase ≠ .check → rxsStep s = .next t →
    t.rxs.state = .running)

/-- O55. TXS HAND gives buffer fill_idx to TRANSPORT, emits REQ_TX_SEND for it, counts the cycle and advances the
pacing. In RUNNING.HAND with a bound encoder: the request word 0x90, fill_idx, n is emitted; the owner of that
buffer alone becomes TRANSPORT, which may touch it from here on (R354 (1)), and no sample changes; inflight is the
buffer, fill_idx the next of the pool, cycles one more, phase CHECK; with a rate r that is not 0 and sums that 64
bits hold, due_ns advances by (due_rem + n * 10^9) div r and due_rem is the remainder; with rate 0 both stay.
Nothing else changes. (R63, R273) -/
def Obligations.TxHandsABufferOver : Prop :=
  ∀ (e : EncUnit) (s : State), s.halted = false → s.txs.state = .running → s.txs.phase = .hand → s.txs.enc = some e →
    s.txs.fillIdx < s.txPool.length →
    ∃ t, txsStep s = .next t ∧
      t.evOut = s.evOut ++ [(0x90 : BitVec 8) ++ BitVec.ofNat 8 s.txs.fillIdx ++ s.txs.n] ∧
      t.txPool.map (·.samples) = s.txPool.map (·.samples) ∧
      (∀ j, j < s.txPool.length → (t.txPool[j]?).map (·.owner) =
        if j = s.txs.fillIdx then some .transport else (s.txPool[j]?).map (·.owner)) ∧
      (∀ v, t.regs v = s.regs v) ∧ t.system = { s.system with txs := t.txs, txPool := t.txPool } ∧
      t.ports = { s.ports with evOut := t.evOut, txHas := some (BitVec.ofNat 8 s.txs.fillIdx) } ∧ t.rsp = s.rsp ∧
      let rate := (s.plug (.enc e)).num 0
      let total := s.txs.dueRem.toNat + s.txs.n.toNat * 1000000000
      { t.txs with dueNs := s.txs.dueNs, dueRem := s.txs.dueRem } =
        { s.txs with inflight := some s.txs.fillIdx, fillIdx := (s.txs.fillIdx + 1) % 2, cycles := s.txs.cycles + 1,
                     phase := .check } ∧
      (rate = 0 → t.txs.dueNs = s.txs.dueNs ∧ t.txs.dueRem = s.txs.dueRem) ∧
      (rate ≠ 0 → s.txs.dueNs.toNat + total / rate < 2 ^ 64 → rate < 2 ^ 32 →
        t.txs.dueNs.toNat = s.txs.dueNs.toNat + total / rate ∧ t.txs.dueRem.toNat = total % rate)

/-- O56. TXS fills the buffer fill_idx with the encoder's next n samples, in order, and marks it filled. In PRELOADING
without a stop request, or in RUNNING.FILL, where buffer fill_idx is not filled and is the scheduler's: the buffer's
samples 0 to n-1 become the bound encoder's next n samples, filled is set, every other buffer, every other unit and
every other register is unchanged; PRELOADING moves on to the next buffer, FILL to PACE. (R211, R268, R269) -/
def Obligations.TxFillsABuffer : Prop :=
  ∀ (e : EncUnit) (s : State) (b : PoolBuf), s.halted = false → s.txs.enc = some e →
    s.txPool[s.txs.fillIdx]? = some b → b.owner = .sched → s.txFilled.getD s.txs.fillIdx false = false →
    s.txs.fillIdx < s.txFilled.length →
    ((s.txs.state = .preloading ∧ s.txs.stopReq = false) ∨ (s.txs.state = .running ∧ s.txs.phase = .fill)) →
    ∃ t b', txsStep s = .next t ∧ t.txPool = s.txPool.set s.txs.fillIdx b' ∧ b'.owner = .sched ∧
      (∀ i, i < s.txs.n.toNat → Memory.read b'.samples i = (encSamples e s.txs.n.toNat s).1[i]?) ∧
      (∀ i, s.txs.n.toNat ≤ i → Memory.read b'.samples i = Memory.read b.samples i) ∧
      t.txFilled = s.txFilled.set s.txs.fillIdx true ∧
      t.txs = (if s.txs.state = .preloading then { s.txs with fillIdx := (s.txs.fillIdx + 1) % 2 }
               else { s.txs with phase := .pace }) ∧
      (∀ v, t.regs v = (encSamples e s.txs.n.toNat s).2.regs v) ∧
      OnlyUnit (.enc e) { s with txs := t.txs, txPool := t.txPool, txFilled := t.txFilled } t ∧ t.rsp = s.rsp

/-- O57. TXS: the loop's plain steps, and WAIT and STOPPING consume the next event: the buffer in flight comes back, a
wrong count is fatal. PRELOADING with every buffer filled goes to ARMED, ARMED without a stop request to
RUNNING.CHECK; CHECK goes to STOPPING where stop_req = 1 and to FILL otherwise; FILL of a filled buffer goes to
PACE, PACE to WAIT, WAIT with nothing in flight to HAND. In WAIT and in STOPPING with buffer j in flight and an
event at the head of the queue: an event for j with count n gives the buffer back to TXS and nothing is in flight
(in WAIT it is then not filled; STOPPING leaves that bit); an event for j with another count halts PLCPHY with
F_COUNT; any other event is dropped; the event leaves the queue. With no event queued there is no step. In each case
nothing else changes. (R268, R269, R270, R271, R272, R274, R306) -/
def Obligations.TxConsumesASentBuffer : Prop :=
  (∀ (s : State) (j : Nat) (w : Word) (rest : List Word), s.halted = false → s.txs.state = .running →
    s.txs.phase = .wait → s.txs.inflight = some j → s.txQueue = w :: rest →
    (w.unit.toNat = j → w.arg = s.txs.n →
      txsStep s = .next { s with txQueue := rest, txs := { s.txs with inflight := none },
                                 txPool := setOwner s.txPool j .sched, txFilled := s.txFilled.set j false }) ∧
    (w.unit.toNat = j → w.arg ≠ s.txs.n →
      txsStep s = .next { s with txQueue := rest, halted := true, fatalCode := 3 }) ∧
    (w.unit.toNat ≠ j → txsStep s = .next { s with txQueue := rest })) ∧
  (∀ (s : State) (j : Nat) (w : Word) (rest : List Word), s.halted = false → s.txs.state = .stopping →
    s.txs.inflight = some j → s.txQueue = w :: rest →
    (w.unit.toNat = j → w.arg = s.txs.n →
      txsStep s = .next { s with txQueue := rest, txs := { s.txs with inflight := none },
                                 txPool := setOwner s.txPool j .sched }) ∧
    (w.unit.toNat = j → w.arg ≠ s.txs.n →
      txsStep s = .next { s with txQueue := rest, halted := true, fatalCode := 3 }) ∧
    (w.unit.toNat ≠ j → txsStep s = .next { s with txQueue := rest })) ∧
  (∀ s : State, s.halted = false →
    (s.txs.state = .preloading → s.txs.stopReq = false → s.txFilled.getD s.txs.fillIdx false = true →
      txsStep s = .next { s with txs := { s.txs with state := .armed } }) ∧
    (s.txs.state = .armed → s.txs.stopReq = false →
      txsStep s = .next { s with txs := { s.txs with state := .running, phase := .check } }) ∧
    (s.txs.state = .running →
      (s.txs.phase = .check → txsStep s = .next { s with txs :=
        if s.txs.stopReq then { s.txs with state := .stopping } else { s.txs with phase := .fill } }) ∧
      (s.txs.phase = .fill → s.txFilled.getD s.txs.fillIdx false = true →
        txsStep s = .next { s with txs := { s.txs with phase := .pace } }) ∧
      (s.txs.phase = .pace → txsStep s = .next { s with txs := { s.txs with phase := .wait } }) ∧
      (s.txs.phase = .wait → s.txs.inflight = none →
        txsStep s = .next { s with txs := { s.txs with phase := .hand } })) ∧
    ((s.txs.state = .stopping ∨ s.txs.state = .running ∧ s.txs.phase = .wait) → s.txs.inflight ≠ none → s.txQueue = [] →
      txsStep s = .next s))

/-- O58. RXS: TRIGGER arms wr_idx, a completed capture moves it on, a timeout takes it back, DISPATCH parses the chunk.
TRIGGER hands buffer wr_idx to TRANSPORT and emits REQ_RX_CAPTURE. In WAIT an event for the armed buffer with count
n takes it back, counts it pending and moves wr_idx on; another count halts with F_COUNT; an event for another
buffer is dropped and the phase stays WAIT; with no event queued there is no step. The capture timeout, enabled
while the queue is empty, counts, emits REQ_RX_ABORT and takes the buffer back, wr_idx unchanged. What TRANSPORT may
touch (log entry 6) follows the two request words. DISPATCH runs the bound decoder on the n samples of buffer
rd_idx, counts it captured and moves rd_idx on. Nothing else changes. (R284, R285, R286, R287) -/
def Obligations.RxCapturesAndDispatches : Prop :=
  (∀ s : State, s.halted = false → s.rxs.state = .running → s.rxs.phase = .trigger →
    rxsStep s = .next { s with
      rxPool := setOwner s.rxPool s.rxs.wrIdx .transport,
      rxs := { s.rxs with armedBuf := some s.rxs.wrIdx, phase := .wait },
      evOut := s.evOut ++ [(0x91 : BitVec 8) ++ BitVec.ofNat 8 s.rxs.wrIdx ++ s.rxs.n],
      rxHas := some (BitVec.ofNat 8 s.rxs.wrIdx) }) ∧
  (∀ (s : State) (j : Nat) (w : Word) (rest : List Word), s.halted = false → s.rxs.state = .running →
    s.rxs.phase = .wait → s.rxs.armedBuf = some j → s.rxQueue = w :: rest → w.unit.toNat = j →
    (w.arg = s.rxs.n →
      rxsStep s = .next { s with
        rxQueue := rest, rxPool := setOwner s.rxPool j .sched,
        rxs := { s.rxs with armedBuf := none, pending := s.rxs.pending + 1, wrIdx := (s.rxs.wrIdx + 1) % 2,
                            phase := .dispatch } }) ∧
    (w.arg ≠ s.rxs.n → rxsStep s = .next { s with rxQueue := rest, halted := true, fatalCode := 3 })) ∧
  (∀ (s : State) (j : Nat), s.halted = false → s.rxs.state = .running → s.rxs.phase = .wait → s.rxs.armedBuf = some j →
    (∀ w rest, s.rxQueue = w :: rest → w.unit.toNat ≠ j → rxsStep s = .next { s with rxQueue := rest }) ∧
    (s.rxQueue = [] → rxsStep s = .next s)) ∧
  (∀ (s : State) (j : Nat), s.halted = false → s.rxs.state = .running → s.rxs.phase = .wait →
    s.rxs.armedBuf = some j → s.rxQueue = [] →
    captureTimeoutStep s = { s with
      rxPool := setOwner s.rxPool j .sched,
      rxs := { s.rxs with timeouts := s.rxs.timeouts + 1, armedBuf := none, phase := .check },
      evOut := s.evOut ++ [(0x92 : BitVec 8) ++ BitVec.ofNat 8 j ++ (0 : BitVec 16)],
      rxHas := if s.rxHas = some (BitVec.ofNat 8 j) then none else s.rxHas }) ∧
  (∀ (s t : State) (d : DecUnit) (chunk : List Sample) (b : PoolBuf) (k : Nat), s.halted = false →
    s.rxs.state = .running → s.rxs.phase = .dispatch → s.rxs.dec = some d → s.rxPool[s.rxs.rdIdx]? = some b →
    b.owner = .sched → chunk.length = s.rxs.n.toNat →
    (∀ i, i < s.rxs.n.toNat → Memory.read b.samples i = chunk[i]?) → decParse d chunk s = .ok (t, k) →
    rxsStep s = .next { t with
      rxs := { s.rxs with captured := s.rxs.captured + 1, rdIdx := (s.rxs.rdIdx + 1) % 2,
                          pending := s.rxs.pending - 1, phase := .check } })

/-- O59. A stop before the first step ends in two steps with no buffer in flight; join expiry ends any stop at once. A
TX session with nothing in flight and stop_req set in PRELOADING or ARMED is IDLE after two TXS steps, with every
buffer its own, none filled, stop_req 0. The RXS STOPPING step aborts an armed capture with REQ_RX_ABORT, takes
every buffer back, drops what is pending, flushes the queue, terminates the decoder (dout kept) and is IDLE, and
changes nothing else. In any state but IDLE, not halted, with a stop withheld, join expiry brings TXS to IDLE with
forced = 1, nothing in flight and every buffer its own, and then HOST's turn answers E_STOP_FORCED; the RX direction
is untouched. Of RXS join expiry does the same for the RX direction, with the abort of an armed capture, every
pending chunk dropped and the decoder in IDLE with dout kept, the TX direction untouched. Without expiry an IDLE
scheduler gives OK. That the abort ends TRANSPORT's hold of the buffer in rxHas, the model's own field, is log entry
6 (DESIGN CHOICE). (R274, R276, R288, R290) -/
def Obligations.StopsEndBoundedly : Prop :=
  (∀ s : State, s.halted = false → s.txs.stopReq = true → s.txs.inflight = none →
    (s.txs.state = .preloading ∨ s.txs.state = .armed) →
    ∃ s₁ t, txsStep s = .next s₁ ∧ txsStep s₁ = .next t ∧ t.txs =
        { s.txs with state := .idle, phase := .check, inflight := none, stopReq := false } ∧ t.txQueue = [] ∧
      (∀ b ∈ t.txPool, b.owner = .sched) ∧ (∀ f ∈ t.txFilled, f = false) ∧ t.evOut = s.evOut) ∧
  (∀ s : State, s.halted = false → s.stopWait = some .tx → s.txs.state ≠ .idle →
    ∃ t, joinExpiryStep s = .next t ∧
      t.txs = { s.txs with state := .idle, phase := .check, inflight := none, stopReq := false, forced := true } ∧
      t.txQueue = [] ∧ (∀ b ∈ t.txPool, b.owner = .sched) ∧
      (∀ f ∈ t.txFilled, f = false) ∧ t.rxs = s.rxs ∧ t.rxPool = s.rxPool ∧ t.rxQueue = s.rxQueue ∧
      hostStep t = .next { t with stopWait := none, rsp := [0x0000000A] }) ∧
  (∀ (s : State) (d : DecUnit), s.halted = false → s.stopWait = some .rx → s.rxs.state ≠ .idle → s.rxs.dec = some d →
    ∃ t, joinExpiryStep s = .next t ∧
      t.rxs = { s.rxs with
        state := .idle, phase := .check, armedBuf := none, pending := 0, rdIdx := s.rxs.wrIdx, stopReq := false,
        forced := true } ∧ t.rxQueue = [] ∧
      (∀ b ∈ t.rxPool, b.owner = .sched) ∧ (t.plug (.dec d)).lc = .idle ∧ t.dout d = s.dout d ∧ t.txs = s.txs ∧
      t.evOut = s.evOut ++ (match s.rxs.armedBuf with
        | some j => [(0x92 : BitVec 8) ++ BitVec.ofNat 8 j ++ (0 : BitVec 16)] | none => []) ∧
      t.txPool = s.txPool ∧ t.txFilled = s.txFilled ∧ t.txQueue = s.txQueue ∧
      hostStep t = .next { t with stopWait := none, rsp := [0x0000000A] }) ∧
  (∀ (s : State) (d : DecUnit), s.halted = false → s.rxs.state = .stopping → s.rxs.dec = some d →
    ∃ t, rxsStep s = .next t ∧
      t.rxs = { s.rxs with
        state := .idle, phase := .check, armedBuf := none, pending := 0, rdIdx := s.rxs.wrIdx, stopReq := false } ∧
      t.rxQueue = [] ∧ t.rxPool = s.rxPool.map (fun b => { b with owner := .sched }) ∧
      t.evOut = s.evOut ++ (match s.rxs.armedBuf with
        | some j => [(0x92 : BitVec 8) ++ BitVec.ofNat 8 j ++ (0 : BitVec 16)] | none => []) ∧
      t.plug (.dec d) = { s.plug (.dec d) with lc := .idle } ∧ t.dout d = s.dout d ∧
      (∀ f, t.decFlt d = some f → f.allocated = false ∧ f.valid = false) ∧ (∀ v, v ≠ .dec d → t.regs v = s.regs v) ∧
      t.system = { s.system with rxs := t.rxs, rxPool := t.rxPool, rxQueue := [] } ∧
      t.ports = { s.ports with evOut := t.evOut, rxHas := t.rxHas } ∧
      (s.rxs.armedBuf = none → t.rxHas = s.rxHas) ∧
      (∀ j, s.rxs.armedBuf = some j → t.rxHas = if s.rxHas = some (BitVec.ofNat 8 j) then none else s.rxHas) ∧ t.rsp = s.rsp) ∧
  (∀ s : State, s.halted = false → s.stopWait = some .tx → s.txs.state = .idle → s.txs.forced = false →
    hostStep s = .next { s with stopWait := none, rsp := [0x00000000] }) ∧
  (∀ s : State, s.halted = false → s.stopWait = some .rx → s.rxs.state = .idle → s.rxs.forced = false →
    hostStep s = .next { s with stopWait := none, rsp := [0x00000000] })

/-- O60. TRANSPORT's access to a buffer it does not have halts with F_OWNERSHIP; its own buffer it reads and writes by
element. TRANSPORT has a buffer from the emission of the request word on, until the completion event or, on RX, the
abort request names it (R354 (1)), whether or not it has taken the request. In a pool buffer that exists:
TRANSPORT's read or write of a buffer that it does not own, or has no longer, sets the latch with code 5
(F_OWNERSHIP) and changes nothing else, whatever the index; in a buffer it has, an index from the session's n on is
F_INDEX (code 4), below it a write changes that one sample and no other, and a read of a written sample gives it. A
buffer that does not exist is F_INDEX. This holds of its reads of TX and writes of RX buffers, and of the two
accesses R354 (2) tells it not to make, to which R62 gives no other effect (log entry 7). R62 names both faults and
no order: that the owner is checked before the index, and the index against the session's n, is the model's (log
entry 7, DEDUCED); what TRANSPORT has is the model's own field (log entry 6). (R62, R63, R354) -/
def Obligations.TransportMayTouchOnlyItsBuffer : Prop :=
  (∀ (s : State) (j i : Nat) (v : Sample) (b : PoolBuf), s.halted = false → s.txPool[j]? = some b →
    (b.owner = .sched ∨ s.txLent j = false →
      transportRead j i s = { s with halted := true, fatalCode := 5 } ∧
      transportTxWrite j i v s = { s with halted := true, fatalCode := 5 }) ∧
    (b.owner = .transport → s.txLent j = true →
      (s.txs.n.toNat ≤ i →
        transportRead j i s = { s with halted := true, fatalCode := 4 } ∧
        transportTxWrite j i v s = { s with halted := true, fatalCode := 4 }) ∧
      (i < s.txs.n.toNat → Memory.read b.samples i = some v →
        transportRead j i s = { s with line := s.line ++ [v] }) ∧
      (i < s.txs.n.toNat → ∃ b', transportTxWrite j i v s = { s with txPool := s.txPool.set j b' } ∧
        b'.owner = .transport ∧ Memory.read b'.samples i = some v ∧
        ∀ k, k ≠ i → Memory.read b'.samples k = Memory.read b.samples k))) ∧
  (∀ (s : State) (j i : Nat) (v : Sample) (b : PoolBuf), s.halted = false → s.rxPool[j]? = some b →
    (b.owner = .sched ∨ s.rxLent j = false →
      transportWrite j i v s = { s with halted := true, fatalCode := 5 } ∧
      transportRxRead j i s = { s with halted := true, fatalCode := 5 }) ∧
    (b.owner = .transport → s.rxLent j = true →
      (s.rxs.n.toNat ≤ i →
        transportWrite j i v s = { s with halted := true, fatalCode := 4 } ∧
        transportRxRead j i s = { s with halted := true, fatalCode := 4 }) ∧
      (i < s.rxs.n.toNat → Memory.read b.samples i = some v →
        transportRxRead j i s = { s with line := s.line ++ [v] }) ∧
      (i < s.rxs.n.toNat → ∃ b', transportWrite j i v s = { s with rxPool := s.rxPool.set j b' } ∧
        b'.owner = .transport ∧ Memory.read b'.samples i = some v ∧
        ∀ k, k ≠ i → Memory.read b'.samples k = Memory.read b.samples k))) ∧
  (∀ (s : State) (j i : Nat) (v : Sample), s.halted = false →
    (s.txPool.length ≤ j →
      transportRead j i s = { s with halted := true, fatalCode := 4 } ∧
      transportTxWrite j i v s = { s with halted := true, fatalCode := 4 }) ∧
    (s.rxPool.length ≤ j →
      transportWrite j i v s = { s with halted := true, fatalCode := 4 } ∧
      transportRxRead j i s = { s with halted := true, fatalCode := 4 })) ∧
  (∀ (s : State) (buf : Byte) (count : BitVec 16),
    (∃ t, exec (.evTxSent buf count) s = .next t ∧ ∀ j, t.txLent j = (s.txLent j && decide (j ≠ buf.toNat))) ∧
    (∃ t, exec (.evRxCaptured buf count) s = .next t ∧ ∀ j, t.rxLent j = (s.rxLent j && decide (j ≠ buf.toNat))) ∧
    (∃ t, exec (.reqTxSend buf count) s = .next t ∧ t.txLent = s.txLent) ∧
    (∃ t, exec (.reqRxCapture buf count) s = .next t ∧ t.rxLent = s.rxLent) ∧
    (∃ t, exec (.reqRxAbort buf count) s = .next t ∧ t.rxLent = s.rxLent)) ∧
  (∀ (s : State) (j : Nat) (n : BitVec 16), j < 256 →
    (∀ k, (s.emitTxSend j n).txLent k = decide (k = j)) ∧ (∀ k, (s.emitRxCapture j n).rxLent k = decide (k = j)) ∧
    ∀ k, (s.emitRxAbort j).rxLent k = (s.rxLent k && decide (k ≠ j)))

end
end

