-- ==== Sys2Proof/Laws/Memory.lean ====
section
/-! SUPPORT. The laws of element memories: every operation keeps the canonical form, a read after a write gives the value
written, and a write leaves every other element alone. Then the same for pool buffers. -/

namespace Sys2Proof.Machine

variable {α : Type}

theorem Memory.wf_nil : Memory.wf ([] : Cells α) := List.Pairwise.nil

/-- Every index listed after a write was listed before, or is the one written. -/
theorem Memory.mem_write {m : Cells α} {a : Nat} {x : α} {e : Nat × α} (h : e ∈ Memory.write m a x) :
    e = (a, x) ∨ e ∈ m := by
  induction m with
  | nil => simpa [Memory.write] using h
  | cons y m ih =>
    simp only [Memory.write] at h
    split at h
    · simpa using h
    · split at h
      · rcases List.mem_cons.1 h with h | h
        · exact .inl h
        · exact .inr (List.mem_cons_of_mem _ h)
      · rcases List.mem_cons.1 h with h | h
        · exact .inr (by simp [h])
        · exact (ih h).imp_right (List.mem_cons_of_mem _)

/-- A write keeps the canonical form. -/
theorem Memory.wf_write {m : Cells α} (h : Memory.wf m) (a : Nat) (x : α) : Memory.wf (Memory.write m a x) := by
  induction m with
  | nil => exact List.pairwise_singleton _ _
  | cons y m ih =>
    have hy := List.pairwise_cons.1 h
    simp only [Memory.write]
    split
    · rename_i hlt
      refine List.pairwise_cons.2 ⟨fun e he => ?_, h⟩
      rcases List.mem_cons.1 he with he | he
      · subst he; exact hlt
      · exact Nat.lt_trans hlt (hy.1 e he)
    · split
      · rename_i heq
        exact List.pairwise_cons.2 ⟨fun e he => heq ▸ hy.1 e he, hy.2⟩
      · refine List.pairwise_cons.2 ⟨fun e he => ?_, ih hy.2⟩
        rcases Memory.mem_write he with he | he
        · subst he; simp only; omega
        · exact hy.1 e he

/-- Writing consecutive elements keeps the canonical form. -/
theorem Memory.wf_writeFrom {m : Cells α} (h : Memory.wf m) (a : Nat) (xs : List (α)) :
    Memory.wf (Memory.writeFrom m a xs) := by
  induction xs generalizing m a with
  | nil => exact h
  | cons x xs ih => exact ih (Memory.wf_write h a x) (a + 1)

/-- A read after a write to the same index gives the value written. -/
@[simp] theorem Memory.read_write_same (m : Cells α) (a : Nat) (x : α) :
    Memory.read (Memory.write m a x) a = some x := by
  induction m with
  | nil => simp [Memory.write, Memory.read]
  | cons y m ih =>
    simp only [Memory.write]
    split
    · simp [Memory.read]
    · split
      · simp [Memory.read]
      · simp [Memory.read, ih, Ne.symm ‹¬a = y.1›]

/-- A write leaves every other element alone. -/
theorem Memory.read_write_other (m : Cells α) {a b : Nat} (x : α) (h : b ≠ a) :
    Memory.read (Memory.write m a x) b = Memory.read m b := by
  induction m with
  | nil => simp [Memory.write, Memory.read, h.symm]
  | cons y m ih =>
    simp only [Memory.write]
    split
    · simp [Memory.read, h.symm]
    · split
      · rename_i heq; subst heq; simp [Memory.read, h.symm]
      · simp [Memory.read, ih]

/-- Consecutive writes leave every index below the first alone. -/
theorem Memory.read_writeFrom_below (m : Cells α) {a b : Nat} (xs : List (α)) (h : b < a) :
    Memory.read (Memory.writeFrom m a xs) b = Memory.read m b := by
  induction xs generalizing m a with
  | nil => rfl
  | cons x xs ih =>
    rw [Memory.writeFrom, ih _ (by omega), Memory.read_write_other _ _ (by omega)]

/-- Consecutive writes leave every index above the last alone. -/
theorem Memory.read_writeFrom_above (m : Cells α) {a b : Nat} (xs : List (α)) (h : a + xs.length ≤ b) :
    Memory.read (Memory.writeFrom m a xs) b = Memory.read m b := by
  induction xs generalizing m a with
  | nil => rfl
  | cons x xs ih =>
    simp only [List.length_cons] at h
    rw [Memory.writeFrom, ih _ (by omega), Memory.read_write_other _ _ (by omega)]

/-- Consecutive writes are read back in order. -/
theorem Memory.read_writeFrom_at (m : Cells α) (a : Nat) (xs : List (α)) (k : Nat) (h : k < xs.length) :
    Memory.read (Memory.writeFrom m a xs) (a + k) = xs[k]? := by
  induction xs generalizing m a k with
  | nil => simp at h
  | cons x xs ih =>
    rw [Memory.writeFrom]
    cases k with
    | zero => rw [Memory.read_writeFrom_below _ _ (by omega)]; simp
    | succ k =>
      simp only [List.length_cons] at h
      rw [show a + (k + 1) = a + 1 + k by omega, ih _ _ _ (by omega)]
      simp

/-! Pool buffers. -/

/-- Everything a `BufWrite` can do: an error that changes nothing, or one sample of one owned buffer written. -/
theorem bufWrite_cases (pool : List PoolBuf) (n : Nat) (who : Owner) (j i : Nat) (v : Sample) :
    (bufWrite pool n who j i v = .error .index ∧
      (pool.length ≤ j ∨ ∃ b, pool[j]? = some b ∧ b.owner = who ∧ n ≤ i)) ∨
    (∃ b, pool[j]? = some b ∧ b.owner ≠ who ∧ bufWrite pool n who j i v = .error .ownership) ∨
    (∃ b, pool[j]? = some b ∧ i < n ∧ b.owner = who ∧
      bufWrite pool n who j i v = .ok (pool.set j { b with samples := Memory.write b.samples i v })) := by
  unfold bufWrite
  cases hb : pool[j]? with
  | none => exact .inl ⟨rfl, .inl (List.getElem?_eq_none_iff.1 hb)⟩
  | some b =>
    by_cases ho : b.owner = who
    · by_cases hi : i < n
      · exact .inr (.inr ⟨b, rfl, hi, ho, by simp [hi, ho]⟩)
      · exact .inl ⟨by simp [hi, ho], .inr ⟨b, rfl, ho, Nat.le_of_not_lt hi⟩⟩
    · exact .inr (.inl ⟨b, rfl, ho, by simp [ho]⟩)

/-- A `BufWrite` that succeeds keeps the size of the pool, every owner, and the canonical form of every buffer. -/
theorem bufWrite_ok {pool pool' : List PoolBuf} {n : Nat} {who : Owner} {j i : Nat} {v : Sample}
    (h : bufWrite pool n who j i v = .ok pool') :
    pool'.length = pool.length ∧ pool'.map (·.owner) = pool.map (·.owner) ∧
      ((∀ b ∈ pool, Memory.wf b.samples) → ∀ b ∈ pool', Memory.wf b.samples) := by
  rcases bufWrite_cases pool n who j i v with ⟨he, -⟩ | ⟨b, -, -, he⟩ | ⟨b, hb, -, -, he⟩
  · rw [he] at h; cases h
  · rw [he] at h; cases h
  · rw [he] at h; cases h
    obtain ⟨hj, rfl⟩ := List.getElem?_eq_some_iff.1 hb
    refine ⟨List.length_set .., ?_, fun hw c hc => ?_⟩
    · rw [List.map_set]
      exact List.ext_getElem (by simp) (fun k h1 h2 => by
        by_cases hk : j = k
        · subst hk; simp
        · simp [List.getElem_set_ne hk])
    · rcases List.mem_or_eq_of_mem_set hc with hc | rfl
      · exact hw c hc
      · exact Memory.wf_write (hw _ (List.getElem_mem hj)) i v

/-- The same for consecutive writes. -/
theorem bufWriteAll_ok {pool pool' : List PoolBuf} {n : Nat} {who : Owner} {j i : Nat} {vs : List Sample}
    (h : bufWriteAll pool n who j i vs = .ok pool') :
    pool'.length = pool.length ∧ pool'.map (·.owner) = pool.map (·.owner) ∧
      ((∀ b ∈ pool, Memory.wf b.samples) → ∀ b ∈ pool', Memory.wf b.samples) := by
  induction vs generalizing pool i with
  | nil => simp only [bufWriteAll, Except.ok.injEq] at h; subst h; exact ⟨rfl, rfl, id⟩
  | cons v vs ih =>
    rw [bufWriteAll] at h
    split at h
    · cases h
    · rename_i p hp
      obtain ⟨h1, h2, h3⟩ := bufWrite_ok hp
      obtain ⟨k1, k2, k3⟩ := ih h
      exact ⟨k1.trans h1, k2.trans h2, fun hw => k3 (h3 hw)⟩

/-- Consecutive writes to an owned buffer, inside the session's length, never fail. -/
theorem bufWriteAll_succeeds {pool : List PoolBuf} {n : Nat} {who : Owner} {j : Nat} {b : PoolBuf}
    (hb : pool[j]? = some b) (ho : b.owner = who) (vs : List Sample) (i : Nat) (hi : i + vs.length ≤ n) :
    ∃ pool', bufWriteAll pool n who j i vs = .ok pool' := by
  induction vs generalizing pool i b with
  | nil => exact ⟨pool, rfl⟩
  | cons v vs ih =>
    simp only [List.length_cons] at hi
    have hw : bufWrite pool n who j i v = .ok (pool.set j { b with samples := Memory.write b.samples i v }) := by
      simp [bufWrite, hb, ho, show i < n by omega]
    rw [bufWriteAll, hw]
    have hj := (List.getElem?_eq_some_iff.1 hb).1
    exact ih (b := { b with samples := Memory.write b.samples i v }) (by simp [hj]) ho (i + 1) (by omega)

/-- Taking buffers back or handing one over keeps the size of the pool and every sample. -/
theorem setOwner_samples (pool : List PoolBuf) (j : Nat) (o : Owner) :
    (setOwner pool j o).map (·.samples) = pool.map (·.samples) := by
  unfold setOwner
  exact List.ext_getElem (by simp) (fun k h1 h2 => by
    simp only [List.getElem_map, List.getElem_modify]; split <;> rfl)

@[simp] theorem setOwner_length (pool : List PoolBuf) (j : Nat) (o : Owner) : (setOwner pool j o).length = pool.length := by
  simp [setOwner]

theorem reclaimAll_samples (pool : List PoolBuf) : (reclaimAll pool).map (·.samples) = pool.map (·.samples) := by
  simp [reclaimAll]

@[simp] theorem reclaimAll_length (pool : List PoolBuf) : (reclaimAll pool).length = pool.length := by
  simp [reclaimAll]

end Sys2Proof.Machine
end

