-- ==== Sys2Proof/Laws/State.lean ====
section
/-! SUPPORT. One lemma per field per update of the state, so that no proof unfolds a record update. -/

namespace Sys2Proof.Machine

/-! `setPlug` -/

@[simp] theorem State.setPlug_halted (s : State) (u : PluginUnit) (p : Plug) : (s.setPlug u p).halted = s.halted := by
  cases u with | dec d => cases d <;> rfl | enc e => cases e <;> rfl
@[simp] theorem State.setPlug_fatalCode (s : State) (u : PluginUnit) (p : Plug) : (s.setPlug u p).fatalCode = s.fatalCode := by
  cases u with | dec d => cases d <;> rfl | enc e => cases e <;> rfl
@[simp] theorem State.setPlug_flt (s : State) (u : PluginUnit) (p : Plug) : (s.setPlug u p).flt = s.flt := by
  cases u with | dec d => cases d <;> rfl | enc e => cases e <;> rfl
@[simp] theorem State.setPlug_txs (s : State) (u : PluginUnit) (p : Plug) : (s.setPlug u p).txs = s.txs := by
  cases u with | dec d => cases d <;> rfl | enc e => cases e <;> rfl
@[simp] theorem State.setPlug_rxs (s : State) (u : PluginUnit) (p : Plug) : (s.setPlug u p).rxs = s.rxs := by
  cases u with | dec d => cases d <;> rfl | enc e => cases e <;> rfl
@[simp] theorem State.setPlug_txPool (s : State) (u : PluginUnit) (p : Plug) : (s.setPlug u p).txPool = s.txPool := by
  cases u with | dec d => cases d <;> rfl | enc e => cases e <;> rfl
@[simp] theorem State.setPlug_txFilled (s : State) (u : PluginUnit) (p : Plug) : (s.setPlug u p).txFilled = s.txFilled := by
  cases u with | dec d => cases d <;> rfl | enc e => cases e <;> rfl
@[simp] theorem State.setPlug_rxPool (s : State) (u : PluginUnit) (p : Plug) : (s.setPlug u p).rxPool = s.rxPool := by
  cases u with | dec d => cases d <;> rfl | enc e => cases e <;> rfl
@[simp] theorem State.setPlug_pbm (s : State) (u : PluginUnit) (p : Plug) : (s.setPlug u p).pbm = s.pbm := by
  cases u with | dec d => cases d <;> rfl | enc e => cases e <;> rfl
@[simp] theorem State.setPlug_txQueue (s : State) (u : PluginUnit) (p : Plug) : (s.setPlug u p).txQueue = s.txQueue := by
  cases u with | dec d => cases d <;> rfl | enc e => cases e <;> rfl
@[simp] theorem State.setPlug_rxQueue (s : State) (u : PluginUnit) (p : Plug) : (s.setPlug u p).rxQueue = s.rxQueue := by
  cases u with | dec d => cases d <;> rfl | enc e => cases e <;> rfl
@[simp] theorem State.setPlug_stopWait (s : State) (u : PluginUnit) (p : Plug) : (s.setPlug u p).stopWait = s.stopWait := by
  cases u with | dec d => cases d <;> rfl | enc e => cases e <;> rfl
@[simp] theorem State.setPlug_txBusy (s : State) (u : PluginUnit) (p : Plug) : (s.setPlug u p).txBusy = s.txBusy := by
  cases u with | dec d => cases d <;> rfl | enc e => cases e <;> rfl
@[simp] theorem State.setPlug_rxBusy (s : State) (u : PluginUnit) (p : Plug) : (s.setPlug u p).rxBusy = s.rxBusy := by
  cases u with | dec d => cases d <;> rfl | enc e => cases e <;> rfl
@[simp] theorem State.setPlug_cmdIn (s : State) (u : PluginUnit) (p : Plug) : (s.setPlug u p).cmdIn = s.cmdIn := by
  cases u with | dec d => cases d <;> rfl | enc e => cases e <;> rfl
@[simp] theorem State.setPlug_rsp (s : State) (u : PluginUnit) (p : Plug) : (s.setPlug u p).rsp = s.rsp := by
  cases u with | dec d => cases d <;> rfl | enc e => cases e <;> rfl
@[simp] theorem State.setPlug_evIn (s : State) (u : PluginUnit) (p : Plug) : (s.setPlug u p).evIn = s.evIn := by
  cases u with | dec d => cases d <;> rfl | enc e => cases e <;> rfl
@[simp] theorem State.setPlug_evOut (s : State) (u : PluginUnit) (p : Plug) : (s.setPlug u p).evOut = s.evOut := by
  cases u with | dec d => cases d <;> rfl | enc e => cases e <;> rfl
@[simp] theorem State.setPlug_txGrant (s : State) (u : PluginUnit) (p : Plug) : (s.setPlug u p).txGrant = s.txGrant := by
  cases u with | dec d => cases d <;> rfl | enc e => cases e <;> rfl
@[simp] theorem State.setPlug_rxGrant (s : State) (u : PluginUnit) (p : Plug) : (s.setPlug u p).rxGrant = s.rxGrant := by
  cases u with | dec d => cases d <;> rfl | enc e => cases e <;> rfl
@[simp] theorem State.setPlug_txHas (s : State) (u : PluginUnit) (p : Plug) : (s.setPlug u p).txHas = s.txHas := by
  cases u with | dec d => cases d <;> rfl | enc e => cases e <;> rfl
@[simp] theorem State.setPlug_rxHas (s : State) (u : PluginUnit) (p : Plug) : (s.setPlug u p).rxHas = s.rxHas := by
  cases u with | dec d => cases d <;> rfl | enc e => cases e <;> rfl
@[simp] theorem State.setPlug_line (s : State) (u : PluginUnit) (p : Plug) : (s.setPlug u p).line = s.line := by
  cases u with | dec d => cases d <;> rfl | enc e => cases e <;> rfl
@[simp] theorem State.setPlug_agenda (s : State) (u : PluginUnit) (p : Plug) : (s.setPlug u p).agenda = s.agenda := by
  cases u with | dec d => cases d <;> rfl | enc e => cases e <;> rfl
@[simp] theorem State.setPlug_tick (s : State) (u : PluginUnit) (p : Plug) : (s.setPlug u p).tick = s.tick := by
  cases u with | dec d => cases d <;> rfl | enc e => cases e <;> rfl
@[simp] theorem State.plug_setPlug (s : State) (u : PluginUnit) (p : Plug) : (s.setPlug u p).plug u = p := by
  cases u with | dec d => cases d <;> rfl | enc e => cases e <;> rfl
@[simp] theorem State.plug_setPlug_of_ne (s : State) {u v : PluginUnit} (p : Plug) (h : v ≠ u) :
    (s.setPlug u p).plug v = s.plug v := by
  rcases u with (_ | _ | _ | _) | (_ | _ | _ | _ | _) <;> rcases v with (_ | _ | _ | _) | (_ | _ | _ | _ | _) <;>
    first | rfl | exact absurd rfl h
@[simp] theorem State.setPlug_setPlug (s : State) (u : PluginUnit) (p q : Plug) :
    (s.setPlug u p).setPlug u q = s.setPlug u q := by
  cases u with | dec d => cases d <;> rfl | enc e => cases e <;> rfl
@[simp] theorem State.setPlug_plug (s : State) (u : PluginUnit) : s.setPlug u (s.plug u) = s := by
  cases u with | dec d => cases d <;> rfl | enc e => cases e <;> rfl
@[simp] theorem State.dout_setPlug (s : State) (u : PluginUnit) (p : Plug) (d : DecUnit) :
    (s.setPlug u p).dout d = s.dout d := by
  rcases u with (_ | _ | _ | _) | (_ | _ | _ | _ | _) <;> cases d <;> rfl
@[simp] theorem State.decFlt_setPlug (s : State) (u : PluginUnit) (p : Plug) (d : DecUnit) :
    (s.setPlug u p).decFlt d = s.decFlt d := by
  rcases u with (_ | _ | _ | _) | (_ | _ | _ | _ | _) <;> cases d <;> rfl

/-! `setDout` -/

@[simp] theorem State.setDout_halted (s : State) (d : DecUnit) (bs : List Byte) : (s.setDout d bs).halted = s.halted := by
  cases d <;> rfl
@[simp] theorem State.setDout_fatalCode (s : State) (d : DecUnit) (bs : List Byte) : (s.setDout d bs).fatalCode = s.fatalCode := by
  cases d <;> rfl
@[simp] theorem State.setDout_flt (s : State) (d : DecUnit) (bs : List Byte) : (s.setDout d bs).flt = s.flt := by
  cases d <;> rfl
@[simp] theorem State.setDout_txs (s : State) (d : DecUnit) (bs : List Byte) : (s.setDout d bs).txs = s.txs := by
  cases d <;> rfl
@[simp] theorem State.setDout_rxs (s : State) (d : DecUnit) (bs : List Byte) : (s.setDout d bs).rxs = s.rxs := by
  cases d <;> rfl
@[simp] theorem State.setDout_txPool (s : State) (d : DecUnit) (bs : List Byte) : (s.setDout d bs).txPool = s.txPool := by
  cases d <;> rfl
@[simp] theorem State.setDout_txFilled (s : State) (d : DecUnit) (bs : List Byte) : (s.setDout d bs).txFilled = s.txFilled := by
  cases d <;> rfl
@[simp] theorem State.setDout_rxPool (s : State) (d : DecUnit) (bs : List Byte) : (s.setDout d bs).rxPool = s.rxPool := by
  cases d <;> rfl
@[simp] theorem State.setDout_pbm (s : State) (d : DecUnit) (bs : List Byte) : (s.setDout d bs).pbm = s.pbm := by
  cases d <;> rfl
@[simp] theorem State.setDout_txQueue (s : State) (d : DecUnit) (bs : List Byte) : (s.setDout d bs).txQueue = s.txQueue := by
  cases d <;> rfl
@[simp] theorem State.setDout_rxQueue (s : State) (d : DecUnit) (bs : List Byte) : (s.setDout d bs).rxQueue = s.rxQueue := by
  cases d <;> rfl
@[simp] theorem State.setDout_stopWait (s : State) (d : DecUnit) (bs : List Byte) : (s.setDout d bs).stopWait = s.stopWait := by
  cases d <;> rfl
@[simp] theorem State.setDout_txBusy (s : State) (d : DecUnit) (bs : List Byte) : (s.setDout d bs).txBusy = s.txBusy := by
  cases d <;> rfl
@[simp] theorem State.setDout_rxBusy (s : State) (d : DecUnit) (bs : List Byte) : (s.setDout d bs).rxBusy = s.rxBusy := by
  cases d <;> rfl
@[simp] theorem State.setDout_cmdIn (s : State) (d : DecUnit) (bs : List Byte) : (s.setDout d bs).cmdIn = s.cmdIn := by
  cases d <;> rfl
@[simp] theorem State.setDout_rsp (s : State) (d : DecUnit) (bs : List Byte) : (s.setDout d bs).rsp = s.rsp := by
  cases d <;> rfl
@[simp] theorem State.setDout_evIn (s : State) (d : DecUnit) (bs : List Byte) : (s.setDout d bs).evIn = s.evIn := by
  cases d <;> rfl
@[simp] theorem State.setDout_evOut (s : State) (d : DecUnit) (bs : List Byte) : (s.setDout d bs).evOut = s.evOut := by
  cases d <;> rfl
@[simp] theorem State.setDout_txGrant (s : State) (d : DecUnit) (bs : List Byte) : (s.setDout d bs).txGrant = s.txGrant := by
  cases d <;> rfl
@[simp] theorem State.setDout_rxGrant (s : State) (d : DecUnit) (bs : List Byte) : (s.setDout d bs).rxGrant = s.rxGrant := by
  cases d <;> rfl
@[simp] theorem State.setDout_txHas (s : State) (d : DecUnit) (bs : List Byte) : (s.setDout d bs).txHas = s.txHas := by
  cases d <;> rfl
@[simp] theorem State.setDout_rxHas (s : State) (d : DecUnit) (bs : List Byte) : (s.setDout d bs).rxHas = s.rxHas := by
  cases d <;> rfl
@[simp] theorem State.setDout_line (s : State) (d : DecUnit) (bs : List Byte) : (s.setDout d bs).line = s.line := by
  cases d <;> rfl
@[simp] theorem State.setDout_agenda (s : State) (d : DecUnit) (bs : List Byte) : (s.setDout d bs).agenda = s.agenda := by
  cases d <;> rfl
@[simp] theorem State.setDout_tick (s : State) (d : DecUnit) (bs : List Byte) : (s.setDout d bs).tick = s.tick := by
  cases d <;> rfl
@[simp] theorem State.plug_setDout (s : State) (d : DecUnit) (bs : List Byte) (u : PluginUnit) :
    (s.setDout d bs).plug u = s.plug u := by
  rcases u with (_ | _ | _ | _) | (_ | _ | _ | _ | _) <;> cases d <;> rfl

/-! `setDecFlt` -/

@[simp] theorem State.setDecFlt_halted (s : State) (d : DecUnit) (f : Flt) : (s.setDecFlt d f).halted = s.halted := by
  cases d <;> rfl
@[simp] theorem State.setDecFlt_fatalCode (s : State) (d : DecUnit) (f : Flt) : (s.setDecFlt d f).fatalCode = s.fatalCode := by
  cases d <;> rfl
@[simp] theorem State.setDecFlt_flt (s : State) (d : DecUnit) (f : Flt) : (s.setDecFlt d f).flt = s.flt := by
  cases d <;> rfl
@[simp] theorem State.setDecFlt_txs (s : State) (d : DecUnit) (f : Flt) : (s.setDecFlt d f).txs = s.txs := by
  cases d <;> rfl
@[simp] theorem State.setDecFlt_rxs (s : State) (d : DecUnit) (f : Flt) : (s.setDecFlt d f).rxs = s.rxs := by
  cases d <;> rfl
@[simp] theorem State.setDecFlt_txPool (s : State) (d : DecUnit) (f : Flt) : (s.setDecFlt d f).txPool = s.txPool := by
  cases d <;> rfl
@[simp] theorem State.setDecFlt_txFilled (s : State) (d : DecUnit) (f : Flt) : (s.setDecFlt d f).txFilled = s.txFilled := by
  cases d <;> rfl
@[simp] theorem State.setDecFlt_rxPool (s : State) (d : DecUnit) (f : Flt) : (s.setDecFlt d f).rxPool = s.rxPool := by
  cases d <;> rfl
@[simp] theorem State.setDecFlt_pbm (s : State) (d : DecUnit) (f : Flt) : (s.setDecFlt d f).pbm = s.pbm := by
  cases d <;> rfl
@[simp] theorem State.setDecFlt_txQueue (s : State) (d : DecUnit) (f : Flt) : (s.setDecFlt d f).txQueue = s.txQueue := by
  cases d <;> rfl
@[simp] theorem State.setDecFlt_rxQueue (s : State) (d : DecUnit) (f : Flt) : (s.setDecFlt d f).rxQueue = s.rxQueue := by
  cases d <;> rfl
@[simp] theorem State.setDecFlt_stopWait (s : State) (d : DecUnit) (f : Flt) : (s.setDecFlt d f).stopWait = s.stopWait := by
  cases d <;> rfl
@[simp] theorem State.setDecFlt_txBusy (s : State) (d : DecUnit) (f : Flt) : (s.setDecFlt d f).txBusy = s.txBusy := by
  cases d <;> rfl
@[simp] theorem State.setDecFlt_rxBusy (s : State) (d : DecUnit) (f : Flt) : (s.setDecFlt d f).rxBusy = s.rxBusy := by
  cases d <;> rfl
@[simp] theorem State.setDecFlt_cmdIn (s : State) (d : DecUnit) (f : Flt) : (s.setDecFlt d f).cmdIn = s.cmdIn := by
  cases d <;> rfl
@[simp] theorem State.setDecFlt_rsp (s : State) (d : DecUnit) (f : Flt) : (s.setDecFlt d f).rsp = s.rsp := by
  cases d <;> rfl
@[simp] theorem State.setDecFlt_evIn (s : State) (d : DecUnit) (f : Flt) : (s.setDecFlt d f).evIn = s.evIn := by
  cases d <;> rfl
@[simp] theorem State.setDecFlt_evOut (s : State) (d : DecUnit) (f : Flt) : (s.setDecFlt d f).evOut = s.evOut := by
  cases d <;> rfl
@[simp] theorem State.setDecFlt_txGrant (s : State) (d : DecUnit) (f : Flt) : (s.setDecFlt d f).txGrant = s.txGrant := by
  cases d <;> rfl
@[simp] theorem State.setDecFlt_rxGrant (s : State) (d : DecUnit) (f : Flt) : (s.setDecFlt d f).rxGrant = s.rxGrant := by
  cases d <;> rfl
@[simp] theorem State.setDecFlt_txHas (s : State) (d : DecUnit) (f : Flt) : (s.setDecFlt d f).txHas = s.txHas := by
  cases d <;> rfl
@[simp] theorem State.setDecFlt_rxHas (s : State) (d : DecUnit) (f : Flt) : (s.setDecFlt d f).rxHas = s.rxHas := by
  cases d <;> rfl
@[simp] theorem State.setDecFlt_line (s : State) (d : DecUnit) (f : Flt) : (s.setDecFlt d f).line = s.line := by
  cases d <;> rfl
@[simp] theorem State.setDecFlt_agenda (s : State) (d : DecUnit) (f : Flt) : (s.setDecFlt d f).agenda = s.agenda := by
  cases d <;> rfl
@[simp] theorem State.setDecFlt_tick (s : State) (d : DecUnit) (f : Flt) : (s.setDecFlt d f).tick = s.tick := by
  cases d <;> rfl
@[simp] theorem State.plug_setDecFlt (s : State) (d : DecUnit) (f : Flt) (u : PluginUnit) :
    (s.setDecFlt d f).plug u = s.plug u := by
  rcases u with (_ | _ | _ | _) | (_ | _ | _ | _ | _) <;> cases d <;> rfl

@[simp] theorem State.dout_setDout (s : State) (d : DecUnit) (bs : List Byte) : (s.setDout d bs).dout d = bs := by
  cases d <;> rfl

@[simp] theorem State.setDout_dout (s : State) (d : DecUnit) : s.setDout d (s.dout d) = s := by
  cases d <;> rfl

/-! `respond` -/

@[simp] theorem State.respond_halted (s : State) (st : Status) (detail : BitVec 8) (ws : List Word) : (s.respond st detail ws).halted = s.halted := rfl
@[simp] theorem State.respond_fatalCode (s : State) (st : Status) (detail : BitVec 8) (ws : List Word) : (s.respond st detail ws).fatalCode = s.fatalCode := rfl
@[simp] theorem State.respond_flt (s : State) (st : Status) (detail : BitVec 8) (ws : List Word) : (s.respond st detail ws).flt = s.flt := rfl
@[simp] theorem State.respond_decOok (s : State) (st : Status) (detail : BitVec 8) (ws : List Word) : (s.respond st detail ws).decOok = s.decOok := rfl
@[simp] theorem State.respond_decPwm (s : State) (st : Status) (detail : BitVec 8) (ws : List Word) : (s.respond st detail ws).decPwm = s.decPwm := rfl
@[simp] theorem State.respond_decMorse (s : State) (st : Status) (detail : BitVec 8) (ws : List Word) : (s.respond st detail ws).decMorse = s.decMorse := rfl
@[simp] theorem State.respond_decRaw (s : State) (st : Status) (detail : BitVec 8) (ws : List Word) : (s.respond st detail ws).decRaw = s.decRaw := rfl
@[simp] theorem State.respond_encWave (s : State) (st : Status) (detail : BitVec 8) (ws : List Word) : (s.respond st detail ws).encWave = s.encWave := rfl
@[simp] theorem State.respond_encWav (s : State) (st : Status) (detail : BitVec 8) (ws : List Word) : (s.respond st detail ws).encWav = s.encWav := rfl
@[simp] theorem State.respond_encOok (s : State) (st : Status) (detail : BitVec 8) (ws : List Word) : (s.respond st detail ws).encOok = s.encOok := rfl
@[simp] theorem State.respond_encPwm (s : State) (st : Status) (detail : BitVec 8) (ws : List Word) : (s.respond st detail ws).encPwm = s.encPwm := rfl
@[simp] theorem State.respond_encMorse (s : State) (st : Status) (detail : BitVec 8) (ws : List Word) : (s.respond st detail ws).encMorse = s.encMorse := rfl
@[simp] theorem State.respond_txs (s : State) (st : Status) (detail : BitVec 8) (ws : List Word) : (s.respond st detail ws).txs = s.txs := rfl
@[simp] theorem State.respond_rxs (s : State) (st : Status) (detail : BitVec 8) (ws : List Word) : (s.respond st detail ws).rxs = s.rxs := rfl
@[simp] theorem State.respond_txPool (s : State) (st : Status) (detail : BitVec 8) (ws : List Word) : (s.respond st detail ws).txPool = s.txPool := rfl
@[simp] theorem State.respond_txFilled (s : State) (st : Status) (detail : BitVec 8) (ws : List Word) : (s.respond st detail ws).txFilled = s.txFilled := rfl
@[simp] theorem State.respond_rxPool (s : State) (st : Status) (detail : BitVec 8) (ws : List Word) : (s.respond st detail ws).rxPool = s.rxPool := rfl
@[simp] theorem State.respond_pbm (s : State) (st : Status) (detail : BitVec 8) (ws : List Word) : (s.respond st detail ws).pbm = s.pbm := rfl
@[simp] theorem State.respond_txQueue (s : State) (st : Status) (detail : BitVec 8) (ws : List Word) : (s.respond st detail ws).txQueue = s.txQueue := rfl
@[simp] theorem State.respond_rxQueue (s : State) (st : Status) (detail : BitVec 8) (ws : List Word) : (s.respond st detail ws).rxQueue = s.rxQueue := rfl
@[simp] theorem State.respond_stopWait (s : State) (st : Status) (detail : BitVec 8) (ws : List Word) : (s.respond st detail ws).stopWait = s.stopWait := rfl
@[simp] theorem State.respond_txBusy (s : State) (st : Status) (detail : BitVec 8) (ws : List Word) : (s.respond st detail ws).txBusy = s.txBusy := rfl
@[simp] theorem State.respond_rxBusy (s : State) (st : Status) (detail : BitVec 8) (ws : List Word) : (s.respond st detail ws).rxBusy = s.rxBusy := rfl
@[simp] theorem State.respond_cmdIn (s : State) (st : Status) (detail : BitVec 8) (ws : List Word) : (s.respond st detail ws).cmdIn = s.cmdIn := rfl
@[simp] theorem State.respond_evIn (s : State) (st : Status) (detail : BitVec 8) (ws : List Word) : (s.respond st detail ws).evIn = s.evIn := rfl
@[simp] theorem State.respond_evOut (s : State) (st : Status) (detail : BitVec 8) (ws : List Word) : (s.respond st detail ws).evOut = s.evOut := rfl
@[simp] theorem State.respond_txGrant (s : State) (st : Status) (detail : BitVec 8) (ws : List Word) : (s.respond st detail ws).txGrant = s.txGrant := rfl
@[simp] theorem State.respond_rxGrant (s : State) (st : Status) (detail : BitVec 8) (ws : List Word) : (s.respond st detail ws).rxGrant = s.rxGrant := rfl
@[simp] theorem State.respond_txHas (s : State) (st : Status) (detail : BitVec 8) (ws : List Word) : (s.respond st detail ws).txHas = s.txHas := rfl
@[simp] theorem State.respond_rxHas (s : State) (st : Status) (detail : BitVec 8) (ws : List Word) : (s.respond st detail ws).rxHas = s.rxHas := rfl
@[simp] theorem State.respond_line (s : State) (st : Status) (detail : BitVec 8) (ws : List Word) : (s.respond st detail ws).line = s.line := rfl
@[simp] theorem State.respond_agenda (s : State) (st : Status) (detail : BitVec 8) (ws : List Word) : (s.respond st detail ws).agenda = s.agenda := rfl
@[simp] theorem State.respond_tick (s : State) (st : Status) (detail : BitVec 8) (ws : List Word) : (s.respond st detail ws).tick = s.tick := rfl
@[simp] theorem State.plug_respond (s : State) (st : Status) (detail : BitVec 8) (ws : List Word) (u : PluginUnit) : (s.respond st detail ws).plug u = s.plug u := rfl
@[simp] theorem State.dout_respond (s : State) (st : Status) (detail : BitVec 8) (ws : List Word) (d : DecUnit) : (s.respond st detail ws).dout d = s.dout d := rfl
@[simp] theorem State.decFlt_respond (s : State) (st : Status) (detail : BitVec 8) (ws : List Word) (d : DecUnit) : (s.respond st detail ws).decFlt d = s.decFlt d := rfl
@[simp] theorem State.respond_rsp (s : State) (st : Status) (detail : BitVec 8) (ws : List Word) :
    (s.respond st detail ws).rsp = statusWord st detail ws.length :: ws := rfl

/-! `raiseFatal` -/

@[simp] theorem State.raiseFatal_flt (s : State) (c : FatalCode) : (s.raiseFatal c).flt = s.flt := rfl
@[simp] theorem State.raiseFatal_decOok (s : State) (c : FatalCode) : (s.raiseFatal c).decOok = s.decOok := rfl
@[simp] theorem State.raiseFatal_decPwm (s : State) (c : FatalCode) : (s.raiseFatal c).decPwm = s.decPwm := rfl
@[simp] theorem State.raiseFatal_decMorse (s : State) (c : FatalCode) : (s.raiseFatal c).decMorse = s.decMorse := rfl
@[simp] theorem State.raiseFatal_decRaw (s : State) (c : FatalCode) : (s.raiseFatal c).decRaw = s.decRaw := rfl
@[simp] theorem State.raiseFatal_encWave (s : State) (c : FatalCode) : (s.raiseFatal c).encWave = s.encWave := rfl
@[simp] theorem State.raiseFatal_encWav (s : State) (c : FatalCode) : (s.raiseFatal c).encWav = s.encWav := rfl
@[simp] theorem State.raiseFatal_encOok (s : State) (c : FatalCode) : (s.raiseFatal c).encOok = s.encOok := rfl
@[simp] theorem State.raiseFatal_encPwm (s : State) (c : FatalCode) : (s.raiseFatal c).encPwm = s.encPwm := rfl
@[simp] theorem State.raiseFatal_encMorse (s : State) (c : FatalCode) : (s.raiseFatal c).encMorse = s.encMorse := rfl
@[simp] theorem State.raiseFatal_txs (s : State) (c : FatalCode) : (s.raiseFatal c).txs = s.txs := rfl
@[simp] theorem State.raiseFatal_rxs (s : State) (c : FatalCode) : (s.raiseFatal c).rxs = s.rxs := rfl
@[simp] theorem State.raiseFatal_txPool (s : State) (c : FatalCode) : (s.raiseFatal c).txPool = s.txPool := rfl
@[simp] theorem State.raiseFatal_txFilled (s : State) (c : FatalCode) : (s.raiseFatal c).txFilled = s.txFilled := rfl
@[simp] theorem State.raiseFatal_rxPool (s : State) (c : FatalCode) : (s.raiseFatal c).rxPool = s.rxPool := rfl
@[simp] theorem State.raiseFatal_pbm (s : State) (c : FatalCode) : (s.raiseFatal c).pbm = s.pbm := rfl
@[simp] theorem State.raiseFatal_txQueue (s : State) (c : FatalCode) : (s.raiseFatal c).txQueue = s.txQueue := rfl
@[simp] theorem State.raiseFatal_rxQueue (s : State) (c : FatalCode) : (s.raiseFatal c).rxQueue = s.rxQueue := rfl
@[simp] theorem State.raiseFatal_stopWait (s : State) (c : FatalCode) : (s.raiseFatal c).stopWait = s.stopWait := rfl
@[simp] theorem State.raiseFatal_txBusy (s : State) (c : FatalCode) : (s.raiseFatal c).txBusy = s.txBusy := rfl
@[simp] theorem State.raiseFatal_rxBusy (s : State) (c : FatalCode) : (s.raiseFatal c).rxBusy = s.rxBusy := rfl
@[simp] theorem State.raiseFatal_cmdIn (s : State) (c : FatalCode) : (s.raiseFatal c).cmdIn = s.cmdIn := rfl
@[simp] theorem State.raiseFatal_rsp (s : State) (c : FatalCode) : (s.raiseFatal c).rsp = s.rsp := rfl
@[simp] theorem State.raiseFatal_evIn (s : State) (c : FatalCode) : (s.raiseFatal c).evIn = s.evIn := rfl
@[simp] theorem State.raiseFatal_evOut (s : State) (c : FatalCode) : (s.raiseFatal c).evOut = s.evOut := rfl
@[simp] theorem State.raiseFatal_txGrant (s : State) (c : FatalCode) : (s.raiseFatal c).txGrant = s.txGrant := rfl
@[simp] theorem State.raiseFatal_rxGrant (s : State) (c : FatalCode) : (s.raiseFatal c).rxGrant = s.rxGrant := rfl
@[simp] theorem State.raiseFatal_txHas (s : State) (c : FatalCode) : (s.raiseFatal c).txHas = s.txHas := rfl
@[simp] theorem State.raiseFatal_rxHas (s : State) (c : FatalCode) : (s.raiseFatal c).rxHas = s.rxHas := rfl
@[simp] theorem State.raiseFatal_line (s : State) (c : FatalCode) : (s.raiseFatal c).line = s.line := rfl
@[simp] theorem State.raiseFatal_agenda (s : State) (c : FatalCode) : (s.raiseFatal c).agenda = s.agenda := rfl
@[simp] theorem State.raiseFatal_tick (s : State) (c : FatalCode) : (s.raiseFatal c).tick = s.tick := rfl
@[simp] theorem State.plug_raiseFatal (s : State) (c : FatalCode) (u : PluginUnit) : (s.raiseFatal c).plug u = s.plug u := rfl
@[simp] theorem State.dout_raiseFatal (s : State) (c : FatalCode) (d : DecUnit) : (s.raiseFatal c).dout d = s.dout d := rfl
@[simp] theorem State.decFlt_raiseFatal (s : State) (c : FatalCode) (d : DecUnit) : (s.raiseFatal c).decFlt d = s.decFlt d := rfl
@[simp] theorem State.raiseFatal_halted (s : State) (c : FatalCode) : (s.raiseFatal c).halted = true := rfl
@[simp] theorem State.raiseFatal_fatalCode (s : State) (c : FatalCode) :
    (s.raiseFatal c).fatalCode = if s.halted then s.fatalCode else c.code := rfl

/-! `toLine` -/

@[simp] theorem State.toLine_flt (s : State) (j i : Nat) (v : Option Sample) : (s.toLine j i v).flt = s.flt := rfl
@[simp] theorem State.toLine_decOok (s : State) (j i : Nat) (v : Option Sample) : (s.toLine j i v).decOok = s.decOok := rfl
@[simp] theorem State.toLine_decPwm (s : State) (j i : Nat) (v : Option Sample) : (s.toLine j i v).decPwm = s.decPwm := rfl
@[simp] theorem State.toLine_decMorse (s : State) (j i : Nat) (v : Option Sample) : (s.toLine j i v).decMorse = s.decMorse := rfl
@[simp] theorem State.toLine_decRaw (s : State) (j i : Nat) (v : Option Sample) : (s.toLine j i v).decRaw = s.decRaw := rfl
@[simp] theorem State.toLine_encWave (s : State) (j i : Nat) (v : Option Sample) : (s.toLine j i v).encWave = s.encWave := rfl
@[simp] theorem State.toLine_encWav (s : State) (j i : Nat) (v : Option Sample) : (s.toLine j i v).encWav = s.encWav := rfl
@[simp] theorem State.toLine_encOok (s : State) (j i : Nat) (v : Option Sample) : (s.toLine j i v).encOok = s.encOok := rfl
@[simp] theorem State.toLine_encPwm (s : State) (j i : Nat) (v : Option Sample) : (s.toLine j i v).encPwm = s.encPwm := rfl
@[simp] theorem State.toLine_encMorse (s : State) (j i : Nat) (v : Option Sample) : (s.toLine j i v).encMorse = s.encMorse := rfl
@[simp] theorem State.toLine_txs (s : State) (j i : Nat) (v : Option Sample) : (s.toLine j i v).txs = s.txs := rfl
@[simp] theorem State.toLine_rxs (s : State) (j i : Nat) (v : Option Sample) : (s.toLine j i v).rxs = s.rxs := rfl
@[simp] theorem State.toLine_txPool (s : State) (j i : Nat) (v : Option Sample) : (s.toLine j i v).txPool = s.txPool := rfl
@[simp] theorem State.toLine_txFilled (s : State) (j i : Nat) (v : Option Sample) : (s.toLine j i v).txFilled = s.txFilled := rfl
@[simp] theorem State.toLine_rxPool (s : State) (j i : Nat) (v : Option Sample) : (s.toLine j i v).rxPool = s.rxPool := rfl
@[simp] theorem State.toLine_pbm (s : State) (j i : Nat) (v : Option Sample) : (s.toLine j i v).pbm = s.pbm := rfl
@[simp] theorem State.toLine_txQueue (s : State) (j i : Nat) (v : Option Sample) : (s.toLine j i v).txQueue = s.txQueue := rfl
@[simp] theorem State.toLine_rxQueue (s : State) (j i : Nat) (v : Option Sample) : (s.toLine j i v).rxQueue = s.rxQueue := rfl
@[simp] theorem State.toLine_stopWait (s : State) (j i : Nat) (v : Option Sample) : (s.toLine j i v).stopWait = s.stopWait := rfl
@[simp] theorem State.toLine_txBusy (s : State) (j i : Nat) (v : Option Sample) : (s.toLine j i v).txBusy = s.txBusy := rfl
@[simp] theorem State.toLine_rxBusy (s : State) (j i : Nat) (v : Option Sample) : (s.toLine j i v).rxBusy = s.rxBusy := rfl
@[simp] theorem State.toLine_cmdIn (s : State) (j i : Nat) (v : Option Sample) : (s.toLine j i v).cmdIn = s.cmdIn := rfl
@[simp] theorem State.toLine_rsp (s : State) (j i : Nat) (v : Option Sample) : (s.toLine j i v).rsp = s.rsp := rfl
@[simp] theorem State.toLine_evIn (s : State) (j i : Nat) (v : Option Sample) : (s.toLine j i v).evIn = s.evIn := rfl
@[simp] theorem State.toLine_evOut (s : State) (j i : Nat) (v : Option Sample) : (s.toLine j i v).evOut = s.evOut := rfl
@[simp] theorem State.toLine_txGrant (s : State) (j i : Nat) (v : Option Sample) : (s.toLine j i v).txGrant = s.txGrant := rfl
@[simp] theorem State.toLine_rxGrant (s : State) (j i : Nat) (v : Option Sample) : (s.toLine j i v).rxGrant = s.rxGrant := rfl
@[simp] theorem State.toLine_txHas (s : State) (j i : Nat) (v : Option Sample) : (s.toLine j i v).txHas = s.txHas := rfl
@[simp] theorem State.toLine_rxHas (s : State) (j i : Nat) (v : Option Sample) : (s.toLine j i v).rxHas = s.rxHas := rfl
@[simp] theorem State.toLine_line (s : State) (j i : Nat) (v : Option Sample) :
    (s.toLine j i v).line = s.line ++ [v.getD (Config.unwrittenSample s.tick j i)] := rfl
@[simp] theorem State.toLine_agenda (s : State) (j i : Nat) (v : Option Sample) : (s.toLine j i v).agenda = s.agenda := rfl
@[simp] theorem State.toLine_tick (s : State) (j i : Nat) (v : Option Sample) : (s.toLine j i v).tick = s.tick := rfl
@[simp] theorem State.plug_toLine (s : State) (j i : Nat) (v : Option Sample) (u : PluginUnit) : (s.toLine j i v).plug u = s.plug u := rfl
@[simp] theorem State.dout_toLine (s : State) (j i : Nat) (v : Option Sample) (d : DecUnit) : (s.toLine j i v).dout d = s.dout d := rfl
@[simp] theorem State.decFlt_toLine (s : State) (j i : Nat) (v : Option Sample) (d : DecUnit) : (s.toLine j i v).decFlt d = s.decFlt d := rfl
@[simp] theorem State.toLine_halted (s : State) (j i : Nat) (v : Option Sample) : (s.toLine j i v).halted = s.halted := rfl
@[simp] theorem State.toLine_fatalCode (s : State) (j i : Nat) (v : Option Sample) :
    (s.toLine j i v).fatalCode = s.fatalCode := rfl

/-! `emitTxSend` -/

@[simp] theorem State.emitTxSend_halted (s : State) (j : Nat) (n : BitVec 16) : (s.emitTxSend j n).halted = s.halted := rfl
@[simp] theorem State.emitTxSend_fatalCode (s : State) (j : Nat) (n : BitVec 16) : (s.emitTxSend j n).fatalCode = s.fatalCode := rfl
@[simp] theorem State.emitTxSend_flt (s : State) (j : Nat) (n : BitVec 16) : (s.emitTxSend j n).flt = s.flt := rfl
@[simp] theorem State.emitTxSend_decOok (s : State) (j : Nat) (n : BitVec 16) : (s.emitTxSend j n).decOok = s.decOok := rfl
@[simp] theorem State.emitTxSend_decPwm (s : State) (j : Nat) (n : BitVec 16) : (s.emitTxSend j n).decPwm = s.decPwm := rfl
@[simp] theorem State.emitTxSend_decMorse (s : State) (j : Nat) (n : BitVec 16) : (s.emitTxSend j n).decMorse = s.decMorse := rfl
@[simp] theorem State.emitTxSend_decRaw (s : State) (j : Nat) (n : BitVec 16) : (s.emitTxSend j n).decRaw = s.decRaw := rfl
@[simp] theorem State.emitTxSend_encWave (s : State) (j : Nat) (n : BitVec 16) : (s.emitTxSend j n).encWave = s.encWave := rfl
@[simp] theorem State.emitTxSend_encWav (s : State) (j : Nat) (n : BitVec 16) : (s.emitTxSend j n).encWav = s.encWav := rfl
@[simp] theorem State.emitTxSend_encOok (s : State) (j : Nat) (n : BitVec 16) : (s.emitTxSend j n).encOok = s.encOok := rfl
@[simp] theorem State.emitTxSend_encPwm (s : State) (j : Nat) (n : BitVec 16) : (s.emitTxSend j n).encPwm = s.encPwm := rfl
@[simp] theorem State.emitTxSend_encMorse (s : State) (j : Nat) (n : BitVec 16) : (s.emitTxSend j n).encMorse = s.encMorse := rfl
@[simp] theorem State.emitTxSend_txs (s : State) (j : Nat) (n : BitVec 16) : (s.emitTxSend j n).txs = s.txs := rfl
@[simp] theorem State.emitTxSend_rxs (s : State) (j : Nat) (n : BitVec 16) : (s.emitTxSend j n).rxs = s.rxs := rfl
@[simp] theorem State.emitTxSend_txPool (s : State) (j : Nat) (n : BitVec 16) : (s.emitTxSend j n).txPool = s.txPool := rfl
@[simp] theorem State.emitTxSend_txFilled (s : State) (j : Nat) (n : BitVec 16) : (s.emitTxSend j n).txFilled = s.txFilled := rfl
@[simp] theorem State.emitTxSend_rxPool (s : State) (j : Nat) (n : BitVec 16) : (s.emitTxSend j n).rxPool = s.rxPool := rfl
@[simp] theorem State.emitTxSend_pbm (s : State) (j : Nat) (n : BitVec 16) : (s.emitTxSend j n).pbm = s.pbm := rfl
@[simp] theorem State.emitTxSend_txQueue (s : State) (j : Nat) (n : BitVec 16) : (s.emitTxSend j n).txQueue = s.txQueue := rfl
@[simp] theorem State.emitTxSend_rxQueue (s : State) (j : Nat) (n : BitVec 16) : (s.emitTxSend j n).rxQueue = s.rxQueue := rfl
@[simp] theorem State.emitTxSend_stopWait (s : State) (j : Nat) (n : BitVec 16) : (s.emitTxSend j n).stopWait = s.stopWait := rfl
@[simp] theorem State.emitTxSend_txBusy (s : State) (j : Nat) (n : BitVec 16) : (s.emitTxSend j n).txBusy = s.txBusy := rfl
@[simp] theorem State.emitTxSend_rxBusy (s : State) (j : Nat) (n : BitVec 16) : (s.emitTxSend j n).rxBusy = s.rxBusy := rfl
@[simp] theorem State.emitTxSend_cmdIn (s : State) (j : Nat) (n : BitVec 16) : (s.emitTxSend j n).cmdIn = s.cmdIn := rfl
@[simp] theorem State.emitTxSend_rsp (s : State) (j : Nat) (n : BitVec 16) : (s.emitTxSend j n).rsp = s.rsp := rfl
@[simp] theorem State.emitTxSend_evIn (s : State) (j : Nat) (n : BitVec 16) : (s.emitTxSend j n).evIn = s.evIn := rfl
@[simp] theorem State.emitTxSend_txGrant (s : State) (j : Nat) (n : BitVec 16) : (s.emitTxSend j n).txGrant = s.txGrant := rfl
@[simp] theorem State.emitTxSend_rxGrant (s : State) (j : Nat) (n : BitVec 16) : (s.emitTxSend j n).rxGrant = s.rxGrant := rfl
@[simp] theorem State.emitTxSend_txHas (s : State) (j : Nat) (n : BitVec 16) : (s.emitTxSend j n).txHas = some (BitVec.ofNat 8 j) := rfl
@[simp] theorem State.emitTxSend_rxHas (s : State) (j : Nat) (n : BitVec 16) : (s.emitTxSend j n).rxHas = s.rxHas := rfl
@[simp] theorem State.emitTxSend_line (s : State) (j : Nat) (n : BitVec 16) : (s.emitTxSend j n).line = s.line := rfl
@[simp] theorem State.emitTxSend_agenda (s : State) (j : Nat) (n : BitVec 16) : (s.emitTxSend j n).agenda = s.agenda := rfl
@[simp] theorem State.emitTxSend_tick (s : State) (j : Nat) (n : BitVec 16) : (s.emitTxSend j n).tick = s.tick := rfl
@[simp] theorem State.plug_emitTxSend (s : State) (j : Nat) (n : BitVec 16) (u : PluginUnit) : (s.emitTxSend j n).plug u = s.plug u := rfl
@[simp] theorem State.dout_emitTxSend (s : State) (j : Nat) (n : BitVec 16) (d : DecUnit) : (s.emitTxSend j n).dout d = s.dout d := rfl
@[simp] theorem State.decFlt_emitTxSend (s : State) (j : Nat) (n : BitVec 16) (d : DecUnit) : (s.emitTxSend j n).decFlt d = s.decFlt d := rfl

/-! `emitRxCapture` -/

@[simp] theorem State.emitRxCapture_halted (s : State) (j : Nat) (n : BitVec 16) : (s.emitRxCapture j n).halted = s.halted := rfl
@[simp] theorem State.emitRxCapture_fatalCode (s : State) (j : Nat) (n : BitVec 16) : (s.emitRxCapture j n).fatalCode = s.fatalCode := rfl
@[simp] theorem State.emitRxCapture_flt (s : State) (j : Nat) (n : BitVec 16) : (s.emitRxCapture j n).flt = s.flt := rfl
@[simp] theorem State.emitRxCapture_decOok (s : State) (j : Nat) (n : BitVec 16) : (s.emitRxCapture j n).decOok = s.decOok := rfl
@[simp] theorem State.emitRxCapture_decPwm (s : State) (j : Nat) (n : BitVec 16) : (s.emitRxCapture j n).decPwm = s.decPwm := rfl
@[simp] theorem State.emitRxCapture_decMorse (s : State) (j : Nat) (n : BitVec 16) : (s.emitRxCapture j n).decMorse = s.decMorse := rfl
@[simp] theorem State.emitRxCapture_decRaw (s : State) (j : Nat) (n : BitVec 16) : (s.emitRxCapture j n).decRaw = s.decRaw := rfl
@[simp] theorem State.emitRxCapture_encWave (s : State) (j : Nat) (n : BitVec 16) : (s.emitRxCapture j n).encWave = s.encWave := rfl
@[simp] theorem State.emitRxCapture_encWav (s : State) (j : Nat) (n : BitVec 16) : (s.emitRxCapture j n).encWav = s.encWav := rfl
@[simp] theorem State.emitRxCapture_encOok (s : State) (j : Nat) (n : BitVec 16) : (s.emitRxCapture j n).encOok = s.encOok := rfl
@[simp] theorem State.emitRxCapture_encPwm (s : State) (j : Nat) (n : BitVec 16) : (s.emitRxCapture j n).encPwm = s.encPwm := rfl
@[simp] theorem State.emitRxCapture_encMorse (s : State) (j : Nat) (n : BitVec 16) : (s.emitRxCapture j n).encMorse = s.encMorse := rfl
@[simp] theorem State.emitRxCapture_txs (s : State) (j : Nat) (n : BitVec 16) : (s.emitRxCapture j n).txs = s.txs := rfl
@[simp] theorem State.emitRxCapture_rxs (s : State) (j : Nat) (n : BitVec 16) : (s.emitRxCapture j n).rxs = s.rxs := rfl
@[simp] theorem State.emitRxCapture_txPool (s : State) (j : Nat) (n : BitVec 16) : (s.emitRxCapture j n).txPool = s.txPool := rfl
@[simp] theorem State.emitRxCapture_txFilled (s : State) (j : Nat) (n : BitVec 16) : (s.emitRxCapture j n).txFilled = s.txFilled := rfl
@[simp] theorem State.emitRxCapture_rxPool (s : State) (j : Nat) (n : BitVec 16) : (s.emitRxCapture j n).rxPool = s.rxPool := rfl
@[simp] theorem State.emitRxCapture_pbm (s : State) (j : Nat) (n : BitVec 16) : (s.emitRxCapture j n).pbm = s.pbm := rfl
@[simp] theorem State.emitRxCapture_txQueue (s : State) (j : Nat) (n : BitVec 16) : (s.emitRxCapture j n).txQueue = s.txQueue := rfl
@[simp] theorem State.emitRxCapture_rxQueue (s : State) (j : Nat) (n : BitVec 16) : (s.emitRxCapture j n).rxQueue = s.rxQueue := rfl
@[simp] theorem State.emitRxCapture_stopWait (s : State) (j : Nat) (n : BitVec 16) : (s.emitRxCapture j n).stopWait = s.stopWait := rfl
@[simp] theorem State.emitRxCapture_txBusy (s : State) (j : Nat) (n : BitVec 16) : (s.emitRxCapture j n).txBusy = s.txBusy := rfl
@[simp] theorem State.emitRxCapture_rxBusy (s : State) (j : Nat) (n : BitVec 16) : (s.emitRxCapture j n).rxBusy = s.rxBusy := rfl
@[simp] theorem State.emitRxCapture_cmdIn (s : State) (j : Nat) (n : BitVec 16) : (s.emitRxCapture j n).cmdIn = s.cmdIn := rfl
@[simp] theorem State.emitRxCapture_rsp (s : State) (j : Nat) (n : BitVec 16) : (s.emitRxCapture j n).rsp = s.rsp := rfl
@[simp] theorem State.emitRxCapture_evIn (s : State) (j : Nat) (n : BitVec 16) : (s.emitRxCapture j n).evIn = s.evIn := rfl
@[simp] theorem State.emitRxCapture_txGrant (s : State) (j : Nat) (n : BitVec 16) : (s.emitRxCapture j n).txGrant = s.txGrant := rfl
@[simp] theorem State.emitRxCapture_rxGrant (s : State) (j : Nat) (n : BitVec 16) : (s.emitRxCapture j n).rxGrant = s.rxGrant := rfl
@[simp] theorem State.emitRxCapture_txHas (s : State) (j : Nat) (n : BitVec 16) : (s.emitRxCapture j n).txHas = s.txHas := rfl
@[simp] theorem State.emitRxCapture_rxHas (s : State) (j : Nat) (n : BitVec 16) : (s.emitRxCapture j n).rxHas = some (BitVec.ofNat 8 j) := rfl
@[simp] theorem State.emitRxCapture_line (s : State) (j : Nat) (n : BitVec 16) : (s.emitRxCapture j n).line = s.line := rfl
@[simp] theorem State.emitRxCapture_agenda (s : State) (j : Nat) (n : BitVec 16) : (s.emitRxCapture j n).agenda = s.agenda := rfl
@[simp] theorem State.emitRxCapture_tick (s : State) (j : Nat) (n : BitVec 16) : (s.emitRxCapture j n).tick = s.tick := rfl
@[simp] theorem State.plug_emitRxCapture (s : State) (j : Nat) (n : BitVec 16) (u : PluginUnit) : (s.emitRxCapture j n).plug u = s.plug u := rfl
@[simp] theorem State.dout_emitRxCapture (s : State) (j : Nat) (n : BitVec 16) (d : DecUnit) : (s.emitRxCapture j n).dout d = s.dout d := rfl
@[simp] theorem State.decFlt_emitRxCapture (s : State) (j : Nat) (n : BitVec 16) (d : DecUnit) : (s.emitRxCapture j n).decFlt d = s.decFlt d := rfl

/-! `emitRxAbort` -/

@[simp] theorem State.emitRxAbort_halted (s : State) (j : Nat) : (s.emitRxAbort j).halted = s.halted := rfl
@[simp] theorem State.emitRxAbort_fatalCode (s : State) (j : Nat) : (s.emitRxAbort j).fatalCode = s.fatalCode := rfl
@[simp] theorem State.emitRxAbort_flt (s : State) (j : Nat) : (s.emitRxAbort j).flt = s.flt := rfl
@[simp] theorem State.emitRxAbort_decOok (s : State) (j : Nat) : (s.emitRxAbort j).decOok = s.decOok := rfl
@[simp] theorem State.emitRxAbort_decPwm (s : State) (j : Nat) : (s.emitRxAbort j).decPwm = s.decPwm := rfl
@[simp] theorem State.emitRxAbort_decMorse (s : State) (j : Nat) : (s.emitRxAbort j).decMorse = s.decMorse := rfl
@[simp] theorem State.emitRxAbort_decRaw (s : State) (j : Nat) : (s.emitRxAbort j).decRaw = s.decRaw := rfl
@[simp] theorem State.emitRxAbort_encWave (s : State) (j : Nat) : (s.emitRxAbort j).encWave = s.encWave := rfl
@[simp] theorem State.emitRxAbort_encWav (s : State) (j : Nat) : (s.emitRxAbort j).encWav = s.encWav := rfl
@[simp] theorem State.emitRxAbort_encOok (s : State) (j : Nat) : (s.emitRxAbort j).encOok = s.encOok := rfl
@[simp] theorem State.emitRxAbort_encPwm (s : State) (j : Nat) : (s.emitRxAbort j).encPwm = s.encPwm := rfl
@[simp] theorem State.emitRxAbort_encMorse (s : State) (j : Nat) : (s.emitRxAbort j).encMorse = s.encMorse := rfl
@[simp] theorem State.emitRxAbort_txs (s : State) (j : Nat) : (s.emitRxAbort j).txs = s.txs := rfl
@[simp] theorem State.emitRxAbort_rxs (s : State) (j : Nat) : (s.emitRxAbort j).rxs = s.rxs := rfl
@[simp] theorem State.emitRxAbort_txPool (s : State) (j : Nat) : (s.emitRxAbort j).txPool = s.txPool := rfl
@[simp] theorem State.emitRxAbort_txFilled (s : State) (j : Nat) : (s.emitRxAbort j).txFilled = s.txFilled := rfl
@[simp] theorem State.emitRxAbort_rxPool (s : State) (j : Nat) : (s.emitRxAbort j).rxPool = s.rxPool := rfl
@[simp] theorem State.emitRxAbort_pbm (s : State) (j : Nat) : (s.emitRxAbort j).pbm = s.pbm := rfl
@[simp] theorem State.emitRxAbort_txQueue (s : State) (j : Nat) : (s.emitRxAbort j).txQueue = s.txQueue := rfl
@[simp] theorem State.emitRxAbort_rxQueue (s : State) (j : Nat) : (s.emitRxAbort j).rxQueue = s.rxQueue := rfl
@[simp] theorem State.emitRxAbort_stopWait (s : State) (j : Nat) : (s.emitRxAbort j).stopWait = s.stopWait := rfl
@[simp] theorem State.emitRxAbort_txBusy (s : State) (j : Nat) : (s.emitRxAbort j).txBusy = s.txBusy := rfl
@[simp] theorem State.emitRxAbort_rxBusy (s : State) (j : Nat) : (s.emitRxAbort j).rxBusy = s.rxBusy := rfl
@[simp] theorem State.emitRxAbort_cmdIn (s : State) (j : Nat) : (s.emitRxAbort j).cmdIn = s.cmdIn := rfl
@[simp] theorem State.emitRxAbort_rsp (s : State) (j : Nat) : (s.emitRxAbort j).rsp = s.rsp := rfl
@[simp] theorem State.emitRxAbort_evIn (s : State) (j : Nat) : (s.emitRxAbort j).evIn = s.evIn := rfl
@[simp] theorem State.emitRxAbort_txGrant (s : State) (j : Nat) : (s.emitRxAbort j).txGrant = s.txGrant := rfl
@[simp] theorem State.emitRxAbort_rxGrant (s : State) (j : Nat) : (s.emitRxAbort j).rxGrant = s.rxGrant := rfl
@[simp] theorem State.emitRxAbort_txHas (s : State) (j : Nat) : (s.emitRxAbort j).txHas = s.txHas := rfl
@[simp] theorem State.emitRxAbort_rxHas (s : State) (j : Nat) : (s.emitRxAbort j).rxHas = endLoan (BitVec.ofNat 8 j) s.rxHas := rfl
@[simp] theorem State.emitRxAbort_line (s : State) (j : Nat) : (s.emitRxAbort j).line = s.line := rfl
@[simp] theorem State.emitRxAbort_agenda (s : State) (j : Nat) : (s.emitRxAbort j).agenda = s.agenda := rfl
@[simp] theorem State.emitRxAbort_tick (s : State) (j : Nat) : (s.emitRxAbort j).tick = s.tick := rfl
@[simp] theorem State.plug_emitRxAbort (s : State) (j : Nat) (u : PluginUnit) : (s.emitRxAbort j).plug u = s.plug u := rfl
@[simp] theorem State.dout_emitRxAbort (s : State) (j : Nat) (d : DecUnit) : (s.emitRxAbort j).dout d = s.dout d := rfl
@[simp] theorem State.decFlt_emitRxAbort (s : State) (j : Nat) (d : DecUnit) : (s.emitRxAbort j).decFlt d = s.decFlt d := rfl

/-! `setTxState` -/

@[simp] theorem State.setTxState_halted (s : State) (x : TxState) : (s.setTxState x).halted = s.halted := rfl
@[simp] theorem State.setTxState_fatalCode (s : State) (x : TxState) : (s.setTxState x).fatalCode = s.fatalCode := rfl
@[simp] theorem State.setTxState_flt (s : State) (x : TxState) : (s.setTxState x).flt = s.flt := rfl
@[simp] theorem State.setTxState_decOok (s : State) (x : TxState) : (s.setTxState x).decOok = s.decOok := rfl
@[simp] theorem State.setTxState_decPwm (s : State) (x : TxState) : (s.setTxState x).decPwm = s.decPwm := rfl
@[simp] theorem State.setTxState_decMorse (s : State) (x : TxState) : (s.setTxState x).decMorse = s.decMorse := rfl
@[simp] theorem State.setTxState_decRaw (s : State) (x : TxState) : (s.setTxState x).decRaw = s.decRaw := rfl
@[simp] theorem State.setTxState_encWave (s : State) (x : TxState) : (s.setTxState x).encWave = s.encWave := rfl
@[simp] theorem State.setTxState_encWav (s : State) (x : TxState) : (s.setTxState x).encWav = s.encWav := rfl
@[simp] theorem State.setTxState_encOok (s : State) (x : TxState) : (s.setTxState x).encOok = s.encOok := rfl
@[simp] theorem State.setTxState_encPwm (s : State) (x : TxState) : (s.setTxState x).encPwm = s.encPwm := rfl
@[simp] theorem State.setTxState_encMorse (s : State) (x : TxState) : (s.setTxState x).encMorse = s.encMorse := rfl
@[simp] theorem State.setTxState_rxs (s : State) (x : TxState) : (s.setTxState x).rxs = s.rxs := rfl
@[simp] theorem State.setTxState_txPool (s : State) (x : TxState) : (s.setTxState x).txPool = s.txPool := rfl
@[simp] theorem State.setTxState_txFilled (s : State) (x : TxState) : (s.setTxState x).txFilled = s.txFilled := rfl
@[simp] theorem State.setTxState_rxPool (s : State) (x : TxState) : (s.setTxState x).rxPool = s.rxPool := rfl
@[simp] theorem State.setTxState_pbm (s : State) (x : TxState) : (s.setTxState x).pbm = s.pbm := rfl
@[simp] theorem State.setTxState_txQueue (s : State) (x : TxState) : (s.setTxState x).txQueue = s.txQueue := rfl
@[simp] theorem State.setTxState_rxQueue (s : State) (x : TxState) : (s.setTxState x).rxQueue = s.rxQueue := rfl
@[simp] theorem State.setTxState_stopWait (s : State) (x : TxState) : (s.setTxState x).stopWait = s.stopWait := rfl
@[simp] theorem State.setTxState_txBusy (s : State) (x : TxState) : (s.setTxState x).txBusy = s.txBusy := rfl
@[simp] theorem State.setTxState_rxBusy (s : State) (x : TxState) : (s.setTxState x).rxBusy = s.rxBusy := rfl
@[simp] theorem State.setTxState_cmdIn (s : State) (x : TxState) : (s.setTxState x).cmdIn = s.cmdIn := rfl
@[simp] theorem State.setTxState_rsp (s : State) (x : TxState) : (s.setTxState x).rsp = s.rsp := rfl
@[simp] theorem State.setTxState_evIn (s : State) (x : TxState) : (s.setTxState x).evIn = s.evIn := rfl
@[simp] theorem State.setTxState_evOut (s : State) (x : TxState) : (s.setTxState x).evOut = s.evOut := rfl
@[simp] theorem State.setTxState_txGrant (s : State) (x : TxState) : (s.setTxState x).txGrant = s.txGrant := rfl
@[simp] theorem State.setTxState_rxGrant (s : State) (x : TxState) : (s.setTxState x).rxGrant = s.rxGrant := rfl
@[simp] theorem State.setTxState_txHas (s : State) (x : TxState) : (s.setTxState x).txHas = s.txHas := rfl
@[simp] theorem State.setTxState_rxHas (s : State) (x : TxState) : (s.setTxState x).rxHas = s.rxHas := rfl
@[simp] theorem State.setTxState_line (s : State) (x : TxState) : (s.setTxState x).line = s.line := rfl
@[simp] theorem State.setTxState_agenda (s : State) (x : TxState) : (s.setTxState x).agenda = s.agenda := rfl
@[simp] theorem State.setTxState_tick (s : State) (x : TxState) : (s.setTxState x).tick = s.tick := rfl
@[simp] theorem State.plug_setTxState (s : State) (x : TxState) (u : PluginUnit) : (s.setTxState x).plug u = s.plug u := rfl
@[simp] theorem State.dout_setTxState (s : State) (x : TxState) (d : DecUnit) : (s.setTxState x).dout d = s.dout d := rfl
@[simp] theorem State.decFlt_setTxState (s : State) (x : TxState) (d : DecUnit) : (s.setTxState x).decFlt d = s.decFlt d := rfl

/-! `setTxPhase` -/

@[simp] theorem State.setTxPhase_halted (s : State) (x : TxPhase) : (s.setTxPhase x).halted = s.halted := rfl
@[simp] theorem State.setTxPhase_fatalCode (s : State) (x : TxPhase) : (s.setTxPhase x).fatalCode = s.fatalCode := rfl
@[simp] theorem State.setTxPhase_flt (s : State) (x : TxPhase) : (s.setTxPhase x).flt = s.flt := rfl
@[simp] theorem State.setTxPhase_decOok (s : State) (x : TxPhase) : (s.setTxPhase x).decOok = s.decOok := rfl
@[simp] theorem State.setTxPhase_decPwm (s : State) (x : TxPhase) : (s.setTxPhase x).decPwm = s.decPwm := rfl
@[simp] theorem State.setTxPhase_decMorse (s : State) (x : TxPhase) : (s.setTxPhase x).decMorse = s.decMorse := rfl
@[simp] theorem State.setTxPhase_decRaw (s : State) (x : TxPhase) : (s.setTxPhase x).decRaw = s.decRaw := rfl
@[simp] theorem State.setTxPhase_encWave (s : State) (x : TxPhase) : (s.setTxPhase x).encWave = s.encWave := rfl
@[simp] theorem State.setTxPhase_encWav (s : State) (x : TxPhase) : (s.setTxPhase x).encWav = s.encWav := rfl
@[simp] theorem State.setTxPhase_encOok (s : State) (x : TxPhase) : (s.setTxPhase x).encOok = s.encOok := rfl
@[simp] theorem State.setTxPhase_encPwm (s : State) (x : TxPhase) : (s.setTxPhase x).encPwm = s.encPwm := rfl
@[simp] theorem State.setTxPhase_encMorse (s : State) (x : TxPhase) : (s.setTxPhase x).encMorse = s.encMorse := rfl
@[simp] theorem State.setTxPhase_rxs (s : State) (x : TxPhase) : (s.setTxPhase x).rxs = s.rxs := rfl
@[simp] theorem State.setTxPhase_txPool (s : State) (x : TxPhase) : (s.setTxPhase x).txPool = s.txPool := rfl
@[simp] theorem State.setTxPhase_txFilled (s : State) (x : TxPhase) : (s.setTxPhase x).txFilled = s.txFilled := rfl
@[simp] theorem State.setTxPhase_rxPool (s : State) (x : TxPhase) : (s.setTxPhase x).rxPool = s.rxPool := rfl
@[simp] theorem State.setTxPhase_pbm (s : State) (x : TxPhase) : (s.setTxPhase x).pbm = s.pbm := rfl
@[simp] theorem State.setTxPhase_txQueue (s : State) (x : TxPhase) : (s.setTxPhase x).txQueue = s.txQueue := rfl
@[simp] theorem State.setTxPhase_rxQueue (s : State) (x : TxPhase) : (s.setTxPhase x).rxQueue = s.rxQueue := rfl
@[simp] theorem State.setTxPhase_stopWait (s : State) (x : TxPhase) : (s.setTxPhase x).stopWait = s.stopWait := rfl
@[simp] theorem State.setTxPhase_txBusy (s : State) (x : TxPhase) : (s.setTxPhase x).txBusy = s.txBusy := rfl
@[simp] theorem State.setTxPhase_rxBusy (s : State) (x : TxPhase) : (s.setTxPhase x).rxBusy = s.rxBusy := rfl
@[simp] theorem State.setTxPhase_cmdIn (s : State) (x : TxPhase) : (s.setTxPhase x).cmdIn = s.cmdIn := rfl
@[simp] theorem State.setTxPhase_rsp (s : State) (x : TxPhase) : (s.setTxPhase x).rsp = s.rsp := rfl
@[simp] theorem State.setTxPhase_evIn (s : State) (x : TxPhase) : (s.setTxPhase x).evIn = s.evIn := rfl
@[simp] theorem State.setTxPhase_evOut (s : State) (x : TxPhase) : (s.setTxPhase x).evOut = s.evOut := rfl
@[simp] theorem State.setTxPhase_txGrant (s : State) (x : TxPhase) : (s.setTxPhase x).txGrant = s.txGrant := rfl
@[simp] theorem State.setTxPhase_rxGrant (s : State) (x : TxPhase) : (s.setTxPhase x).rxGrant = s.rxGrant := rfl
@[simp] theorem State.setTxPhase_txHas (s : State) (x : TxPhase) : (s.setTxPhase x).txHas = s.txHas := rfl
@[simp] theorem State.setTxPhase_rxHas (s : State) (x : TxPhase) : (s.setTxPhase x).rxHas = s.rxHas := rfl
@[simp] theorem State.setTxPhase_line (s : State) (x : TxPhase) : (s.setTxPhase x).line = s.line := rfl
@[simp] theorem State.setTxPhase_agenda (s : State) (x : TxPhase) : (s.setTxPhase x).agenda = s.agenda := rfl
@[simp] theorem State.setTxPhase_tick (s : State) (x : TxPhase) : (s.setTxPhase x).tick = s.tick := rfl
@[simp] theorem State.plug_setTxPhase (s : State) (x : TxPhase) (u : PluginUnit) : (s.setTxPhase x).plug u = s.plug u := rfl
@[simp] theorem State.dout_setTxPhase (s : State) (x : TxPhase) (d : DecUnit) : (s.setTxPhase x).dout d = s.dout d := rfl
@[simp] theorem State.decFlt_setTxPhase (s : State) (x : TxPhase) (d : DecUnit) : (s.setTxPhase x).decFlt d = s.decFlt d := rfl

/-! `setRxState` -/

@[simp] theorem State.setRxState_halted (s : State) (x : RxState) : (s.setRxState x).halted = s.halted := rfl
@[simp] theorem State.setRxState_fatalCode (s : State) (x : RxState) : (s.setRxState x).fatalCode = s.fatalCode := rfl
@[simp] theorem State.setRxState_flt (s : State) (x : RxState) : (s.setRxState x).flt = s.flt := rfl
@[simp] theorem State.setRxState_decOok (s : State) (x : RxState) : (s.setRxState x).decOok = s.decOok := rfl
@[simp] theorem State.setRxState_decPwm (s : State) (x : RxState) : (s.setRxState x).decPwm = s.decPwm := rfl
@[simp] theorem State.setRxState_decMorse (s : State) (x : RxState) : (s.setRxState x).decMorse = s.decMorse := rfl
@[simp] theorem State.setRxState_decRaw (s : State) (x : RxState) : (s.setRxState x).decRaw = s.decRaw := rfl
@[simp] theorem State.setRxState_encWave (s : State) (x : RxState) : (s.setRxState x).encWave = s.encWave := rfl
@[simp] theorem State.setRxState_encWav (s : State) (x : RxState) : (s.setRxState x).encWav = s.encWav := rfl
@[simp] theorem State.setRxState_encOok (s : State) (x : RxState) : (s.setRxState x).encOok = s.encOok := rfl
@[simp] theorem State.setRxState_encPwm (s : State) (x : RxState) : (s.setRxState x).encPwm = s.encPwm := rfl
@[simp] theorem State.setRxState_encMorse (s : State) (x : RxState) : (s.setRxState x).encMorse = s.encMorse := rfl
@[simp] theorem State.setRxState_txs (s : State) (x : RxState) : (s.setRxState x).txs = s.txs := rfl
@[simp] theorem State.setRxState_txPool (s : State) (x : RxState) : (s.setRxState x).txPool = s.txPool := rfl
@[simp] theorem State.setRxState_txFilled (s : State) (x : RxState) : (s.setRxState x).txFilled = s.txFilled := rfl
@[simp] theorem State.setRxState_rxPool (s : State) (x : RxState) : (s.setRxState x).rxPool = s.rxPool := rfl
@[simp] theorem State.setRxState_pbm (s : State) (x : RxState) : (s.setRxState x).pbm = s.pbm := rfl
@[simp] theorem State.setRxState_txQueue (s : State) (x : RxState) : (s.setRxState x).txQueue = s.txQueue := rfl
@[simp] theorem State.setRxState_rxQueue (s : State) (x : RxState) : (s.setRxState x).rxQueue = s.rxQueue := rfl
@[simp] theorem State.setRxState_stopWait (s : State) (x : RxState) : (s.setRxState x).stopWait = s.stopWait := rfl
@[simp] theorem State.setRxState_txBusy (s : State) (x : RxState) : (s.setRxState x).txBusy = s.txBusy := rfl
@[simp] theorem State.setRxState_rxBusy (s : State) (x : RxState) : (s.setRxState x).rxBusy = s.rxBusy := rfl
@[simp] theorem State.setRxState_cmdIn (s : State) (x : RxState) : (s.setRxState x).cmdIn = s.cmdIn := rfl
@[simp] theorem State.setRxState_rsp (s : State) (x : RxState) : (s.setRxState x).rsp = s.rsp := rfl
@[simp] theorem State.setRxState_evIn (s : State) (x : RxState) : (s.setRxState x).evIn = s.evIn := rfl
@[simp] theorem State.setRxState_evOut (s : State) (x : RxState) : (s.setRxState x).evOut = s.evOut := rfl
@[simp] theorem State.setRxState_txGrant (s : State) (x : RxState) : (s.setRxState x).txGrant = s.txGrant := rfl
@[simp] theorem State.setRxState_rxGrant (s : State) (x : RxState) : (s.setRxState x).rxGrant = s.rxGrant := rfl
@[simp] theorem State.setRxState_txHas (s : State) (x : RxState) : (s.setRxState x).txHas = s.txHas := rfl
@[simp] theorem State.setRxState_rxHas (s : State) (x : RxState) : (s.setRxState x).rxHas = s.rxHas := rfl
@[simp] theorem State.setRxState_line (s : State) (x : RxState) : (s.setRxState x).line = s.line := rfl
@[simp] theorem State.setRxState_agenda (s : State) (x : RxState) : (s.setRxState x).agenda = s.agenda := rfl
@[simp] theorem State.setRxState_tick (s : State) (x : RxState) : (s.setRxState x).tick = s.tick := rfl
@[simp] theorem State.plug_setRxState (s : State) (x : RxState) (u : PluginUnit) : (s.setRxState x).plug u = s.plug u := rfl
@[simp] theorem State.dout_setRxState (s : State) (x : RxState) (d : DecUnit) : (s.setRxState x).dout d = s.dout d := rfl
@[simp] theorem State.decFlt_setRxState (s : State) (x : RxState) (d : DecUnit) : (s.setRxState x).decFlt d = s.decFlt d := rfl

/-! `setRxPhase` -/

@[simp] theorem State.setRxPhase_halted (s : State) (x : RxPhase) : (s.setRxPhase x).halted = s.halted := rfl
@[simp] theorem State.setRxPhase_fatalCode (s : State) (x : RxPhase) : (s.setRxPhase x).fatalCode = s.fatalCode := rfl
@[simp] theorem State.setRxPhase_flt (s : State) (x : RxPhase) : (s.setRxPhase x).flt = s.flt := rfl
@[simp] theorem State.setRxPhase_decOok (s : State) (x : RxPhase) : (s.setRxPhase x).decOok = s.decOok := rfl
@[simp] theorem State.setRxPhase_decPwm (s : State) (x : RxPhase) : (s.setRxPhase x).decPwm = s.decPwm := rfl
@[simp] theorem State.setRxPhase_decMorse (s : State) (x : RxPhase) : (s.setRxPhase x).decMorse = s.decMorse := rfl
@[simp] theorem State.setRxPhase_decRaw (s : State) (x : RxPhase) : (s.setRxPhase x).decRaw = s.decRaw := rfl
@[simp] theorem State.setRxPhase_encWave (s : State) (x : RxPhase) : (s.setRxPhase x).encWave = s.encWave := rfl
@[simp] theorem State.setRxPhase_encWav (s : State) (x : RxPhase) : (s.setRxPhase x).encWav = s.encWav := rfl
@[simp] theorem State.setRxPhase_encOok (s : State) (x : RxPhase) : (s.setRxPhase x).encOok = s.encOok := rfl
@[simp] theorem State.setRxPhase_encPwm (s : State) (x : RxPhase) : (s.setRxPhase x).encPwm = s.encPwm := rfl
@[simp] theorem State.setRxPhase_encMorse (s : State) (x : RxPhase) : (s.setRxPhase x).encMorse = s.encMorse := rfl
@[simp] theorem State.setRxPhase_txs (s : State) (x : RxPhase) : (s.setRxPhase x).txs = s.txs := rfl
@[simp] theorem State.setRxPhase_txPool (s : State) (x : RxPhase) : (s.setRxPhase x).txPool = s.txPool := rfl
@[simp] theorem State.setRxPhase_txFilled (s : State) (x : RxPhase) : (s.setRxPhase x).txFilled = s.txFilled := rfl
@[simp] theorem State.setRxPhase_rxPool (s : State) (x : RxPhase) : (s.setRxPhase x).rxPool = s.rxPool := rfl
@[simp] theorem State.setRxPhase_pbm (s : State) (x : RxPhase) : (s.setRxPhase x).pbm = s.pbm := rfl
@[simp] theorem State.setRxPhase_txQueue (s : State) (x : RxPhase) : (s.setRxPhase x).txQueue = s.txQueue := rfl
@[simp] theorem State.setRxPhase_rxQueue (s : State) (x : RxPhase) : (s.setRxPhase x).rxQueue = s.rxQueue := rfl
@[simp] theorem State.setRxPhase_stopWait (s : State) (x : RxPhase) : (s.setRxPhase x).stopWait = s.stopWait := rfl
@[simp] theorem State.setRxPhase_txBusy (s : State) (x : RxPhase) : (s.setRxPhase x).txBusy = s.txBusy := rfl
@[simp] theorem State.setRxPhase_rxBusy (s : State) (x : RxPhase) : (s.setRxPhase x).rxBusy = s.rxBusy := rfl
@[simp] theorem State.setRxPhase_cmdIn (s : State) (x : RxPhase) : (s.setRxPhase x).cmdIn = s.cmdIn := rfl
@[simp] theorem State.setRxPhase_rsp (s : State) (x : RxPhase) : (s.setRxPhase x).rsp = s.rsp := rfl
@[simp] theorem State.setRxPhase_evIn (s : State) (x : RxPhase) : (s.setRxPhase x).evIn = s.evIn := rfl
@[simp] theorem State.setRxPhase_evOut (s : State) (x : RxPhase) : (s.setRxPhase x).evOut = s.evOut := rfl
@[simp] theorem State.setRxPhase_txGrant (s : State) (x : RxPhase) : (s.setRxPhase x).txGrant = s.txGrant := rfl
@[simp] theorem State.setRxPhase_rxGrant (s : State) (x : RxPhase) : (s.setRxPhase x).rxGrant = s.rxGrant := rfl
@[simp] theorem State.setRxPhase_txHas (s : State) (x : RxPhase) : (s.setRxPhase x).txHas = s.txHas := rfl
@[simp] theorem State.setRxPhase_rxHas (s : State) (x : RxPhase) : (s.setRxPhase x).rxHas = s.rxHas := rfl
@[simp] theorem State.setRxPhase_line (s : State) (x : RxPhase) : (s.setRxPhase x).line = s.line := rfl
@[simp] theorem State.setRxPhase_agenda (s : State) (x : RxPhase) : (s.setRxPhase x).agenda = s.agenda := rfl
@[simp] theorem State.setRxPhase_tick (s : State) (x : RxPhase) : (s.setRxPhase x).tick = s.tick := rfl
@[simp] theorem State.plug_setRxPhase (s : State) (x : RxPhase) (u : PluginUnit) : (s.setRxPhase x).plug u = s.plug u := rfl
@[simp] theorem State.dout_setRxPhase (s : State) (x : RxPhase) (d : DecUnit) : (s.setRxPhase x).dout d = s.dout d := rfl
@[simp] theorem State.decFlt_setRxPhase (s : State) (x : RxPhase) (d : DecUnit) : (s.setRxPhase x).decFlt d = s.decFlt d := rfl

/-! `abortArmed` -/

@[simp] theorem State.abortArmed_halted (s : State) : s.abortArmed.halted = s.halted := by
  unfold State.abortArmed; split <;> rfl
@[simp] theorem State.abortArmed_fatalCode (s : State) : s.abortArmed.fatalCode = s.fatalCode := by
  unfold State.abortArmed; split <;> rfl
@[simp] theorem State.abortArmed_flt (s : State) : s.abortArmed.flt = s.flt := by
  unfold State.abortArmed; split <;> rfl
@[simp] theorem State.abortArmed_decOok (s : State) : s.abortArmed.decOok = s.decOok := by
  unfold State.abortArmed; split <;> rfl
@[simp] theorem State.abortArmed_decPwm (s : State) : s.abortArmed.decPwm = s.decPwm := by
  unfold State.abortArmed; split <;> rfl
@[simp] theorem State.abortArmed_decMorse (s : State) : s.abortArmed.decMorse = s.decMorse := by
  unfold State.abortArmed; split <;> rfl
@[simp] theorem State.abortArmed_decRaw (s : State) : s.abortArmed.decRaw = s.decRaw := by
  unfold State.abortArmed; split <;> rfl
@[simp] theorem State.abortArmed_encWave (s : State) : s.abortArmed.encWave = s.encWave := by
  unfold State.abortArmed; split <;> rfl
@[simp] theorem State.abortArmed_encWav (s : State) : s.abortArmed.encWav = s.encWav := by
  unfold State.abortArmed; split <;> rfl
@[simp] theorem State.abortArmed_encOok (s : State) : s.abortArmed.encOok = s.encOok := by
  unfold State.abortArmed; split <;> rfl
@[simp] theorem State.abortArmed_encPwm (s : State) : s.abortArmed.encPwm = s.encPwm := by
  unfold State.abortArmed; split <;> rfl
@[simp] theorem State.abortArmed_encMorse (s : State) : s.abortArmed.encMorse = s.encMorse := by
  unfold State.abortArmed; split <;> rfl
@[simp] theorem State.abortArmed_txs (s : State) : s.abortArmed.txs = s.txs := by
  unfold State.abortArmed; split <;> rfl
@[simp] theorem State.abortArmed_rxs (s : State) : s.abortArmed.rxs = s.rxs := by
  unfold State.abortArmed; split <;> rfl
@[simp] theorem State.abortArmed_txPool (s : State) : s.abortArmed.txPool = s.txPool := by
  unfold State.abortArmed; split <;> rfl
@[simp] theorem State.abortArmed_txFilled (s : State) : s.abortArmed.txFilled = s.txFilled := by
  unfold State.abortArmed; split <;> rfl
@[simp] theorem State.abortArmed_rxPool (s : State) : s.abortArmed.rxPool = s.rxPool := by
  unfold State.abortArmed; split <;> rfl
@[simp] theorem State.abortArmed_pbm (s : State) : s.abortArmed.pbm = s.pbm := by
  unfold State.abortArmed; split <;> rfl
@[simp] theorem State.abortArmed_txQueue (s : State) : s.abortArmed.txQueue = s.txQueue := by
  unfold State.abortArmed; split <;> rfl
@[simp] theorem State.abortArmed_rxQueue (s : State) : s.abortArmed.rxQueue = s.rxQueue := by
  unfold State.abortArmed; split <;> rfl
@[simp] theorem State.abortArmed_stopWait (s : State) : s.abortArmed.stopWait = s.stopWait := by
  unfold State.abortArmed; split <;> rfl
@[simp] theorem State.abortArmed_txBusy (s : State) : s.abortArmed.txBusy = s.txBusy := by
  unfold State.abortArmed; split <;> rfl
@[simp] theorem State.abortArmed_rxBusy (s : State) : s.abortArmed.rxBusy = s.rxBusy := by
  unfold State.abortArmed; split <;> rfl
@[simp] theorem State.abortArmed_cmdIn (s : State) : s.abortArmed.cmdIn = s.cmdIn := by
  unfold State.abortArmed; split <;> rfl
@[simp] theorem State.abortArmed_rsp (s : State) : s.abortArmed.rsp = s.rsp := by
  unfold State.abortArmed; split <;> rfl
@[simp] theorem State.abortArmed_evIn (s : State) : s.abortArmed.evIn = s.evIn := by
  unfold State.abortArmed; split <;> rfl
@[simp] theorem State.abortArmed_txGrant (s : State) : s.abortArmed.txGrant = s.txGrant := by
  unfold State.abortArmed; split <;> rfl
@[simp] theorem State.abortArmed_rxGrant (s : State) : s.abortArmed.rxGrant = s.rxGrant := by
  unfold State.abortArmed; split <;> rfl
@[simp] theorem State.abortArmed_txHas (s : State) : s.abortArmed.txHas = s.txHas := by
  unfold State.abortArmed; split <;> rfl
@[simp] theorem State.abortArmed_rxHas (s : State) :
    s.abortArmed.rxHas = s.rxs.armedBuf.elim s.rxHas (fun j => endLoan (BitVec.ofNat 8 j) s.rxHas) := by
  unfold State.abortArmed; split <;> simp_all
@[simp] theorem State.abortArmed_line (s : State) : s.abortArmed.line = s.line := by
  unfold State.abortArmed; split <;> rfl
@[simp] theorem State.abortArmed_agenda (s : State) : s.abortArmed.agenda = s.agenda := by
  unfold State.abortArmed; split <;> rfl
@[simp] theorem State.abortArmed_tick (s : State) : s.abortArmed.tick = s.tick := by
  unfold State.abortArmed; split <;> rfl
@[simp] theorem State.plug_abortArmed (s : State) (u : PluginUnit) : s.abortArmed.plug u = s.plug u := by
  unfold State.abortArmed; split <;> rfl

end Sys2Proof.Machine
end

