-- ==== Sys2Proof/Laws/Ops.lean ====
section
/-! SUPPORT. For each shared operation, once, everything it can do: the frames of commands, of the filter, of parsing and
of generating samples. -/

namespace Sys2Proof.Machine

/-! The frames of commands. -/

/-- Everything a command on the filter, a scheduler or the system can do. -/
theorem blockCommand_cases (s : State) (body : CmdResult) :
    (s.halted = true ∧ blockCommand s body = .next s.answerHalted) ∨
    (s.halted = false ∧ ∃ t st d ws, body = .done t st d ws ∧ blockCommand s body = .next (t.respond st d ws)) ∨
    (s.halted = false ∧ ∃ st d, body = .refuse st d ∧ blockCommand s body = .next (s.respond st d [])) ∨
    (s.halted = false ∧ ∃ c, body = .fatal c ∧ blockCommand s body = .next (s.failFatal c)) := by
  unfold blockCommand
  cases hh : s.halted <;> cases body <;> simp

/-- A command that is not halted and whose rule is done. -/
theorem blockCommand_done {s t : State} {body : CmdResult} {st : Status} {d : BitVec 8} {ws : List Word}
    (hh : s.halted = false) (hb : body = .done t st d ws) : blockCommand s body = .next (t.respond st d ws) := by
  simp [blockCommand, hh, hb]

/-- Everything a command on a plugin unit can do. -/
theorem pluginCommand_cases (u : PluginUnit) (exempt : Bool) (legal : Lc → Bool) (s : State) (body : CmdResult) :
    (s.halted = true ∧ pluginCommand u exempt legal s body = .next s.answerHalted) ∨
    (s.halted = false ∧ exempt = false ∧ s.busy u = true ∧
      pluginCommand u exempt legal s body = .next (s.refusePlugin u .busy 0)) ∨
    (s.halted = false ∧ (exempt = true ∨ s.busy u = false) ∧ legal (s.plug u).lc = false ∧
      pluginCommand u exempt legal s body = .next (s.refusePlugin u .badState (s.plug u).lc.code)) ∨
    (s.halted = false ∧ (exempt = true ∨ s.busy u = false) ∧ legal (s.plug u).lc = true ∧
      ((∃ t st d ws, body = .done t st d ws ∧ pluginCommand u exempt legal s body = .next (t.respond st d ws)) ∨
       (∃ st d, body = .refuse st d ∧ pluginCommand u exempt legal s body = .next (s.refusePlugin u st d)) ∨
       (∃ c, body = .fatal c ∧ pluginCommand u exempt legal s body = .next (s.failFatal c)))) := by
  unfold pluginCommand
  cases hh : s.halted <;> cases exempt <;> cases hb : s.busy u <;> cases hl : legal (s.plug u).lc <;> cases body <;> simp

/-- A command that passes every check and whose rule is done. -/
theorem pluginCommand_done {u : PluginUnit} {exempt : Bool} {legal : Lc → Bool} {s t : State} {body : CmdResult}
    {st : Status} {d : BitVec 8} {ws : List Word} (hh : s.halted = false) (hb : exempt = true ∨ s.busy u = false)
    (hl : legal (s.plug u).lc = true) (hbody : body = .done t st d ws) :
    pluginCommand u exempt legal s body = .next (t.respond st d ws) := by
  rcases hb with hb | hb <;> simp [pluginCommand, hh, hb, hl, hbody]

/-- A refusal by a plugin unit changes the unit's `err_status` and the response only. -/
theorem refusePlugin_eq (s : State) (u : PluginUnit) (st : Status) (d : BitVec 8) :
    s.refusePlugin u st d = (s.setPlug u { s.plug u with errStatus := st.code }).respond st d [] := rfl

/-- A fatal error in a command leaves everything but the latch and the response. -/
theorem failFatal_eq (s : State) (c : FatalCode) :
    s.failFatal c =
      { s with halted := true, fatalCode := if s.halted then s.fatalCode else c.code, rsp := [statusWord .halted c.code 0] } :=
  rfl

/-! The filter. -/

/-- Capturing changes only the captured values and the countdown. -/
theorem Flt.capture_frame (f : Flt) (v : REAL) :
    ∃ cap rem, f.capture v = { f with cap := cap, capRem := rem } ∧ (Memory.wf f.cap → Memory.wf cap) := by
  unfold Flt.capture
  split
  · exact ⟨_, _, rfl, fun h => Memory.wf_write h _ _⟩
  · exact ⟨f.cap, f.capRem, rfl, id⟩

theorem Flt.captureAll_frame (f : Flt) (vs : List REAL) :
    ∃ cap rem, vs.foldl Flt.capture f = { f with cap := cap, capRem := rem } ∧ (Memory.wf f.cap → Memory.wf cap) := by
  induction vs generalizing f with
  | nil => exact ⟨f.cap, f.capRem, rfl, id⟩
  | cons v vs ih =>
    obtain ⟨c, r, h, hw⟩ := f.capture_frame v
    obtain ⟨c', r', h', hw'⟩ := ih (f.capture v)
    refine ⟨c', r', ?_, fun hf => hw' ?_⟩
    · rw [List.foldl_cons, h', h]
    · rw [h]; exact hw hf

/-- A processed chunk: its length is `N`, and it changes the histories, the phase, `valid` and the capture only. -/
theorem Flt.processChunk_ok {f g : Flt} {raw : List Sample} {offset : Sample} (h : f.processChunk raw offset = .ok g) :
    raw.length = f.n.toNat ∧
    ∃ xb yb phase cap rem, g = { f with xb := xb, yb := yb, phase := phase, valid := true, cap := cap, capRem := rem } ∧
      (Memory.wf f.cap → Memory.wf cap) := by
  unfold Flt.processChunk at h
  split at h
  · rename_i hlen
    obtain ⟨c, r, hc, hw⟩ := f.captureAll_frame
      ((iirRun f.a f.b ((shiftHistory f.p f.n.toNat f.xb).take f.p ++ (demodChunk f.demod f.fw offset f.phase raw).1)
        f.n.toNat f.p ((shiftHistory f.p f.n.toNat f.yb).take f.p)).drop f.p)
    injection h with h
    exact ⟨hlen, _, _, _, c, r, by rw [← h, hc], hw⟩
  · cases h

/-- A chunk of the right length is processed. -/
theorem Flt.processChunk_succeeds {f : Flt} {raw : List Sample} (offset : Sample) (h : raw.length = f.n.toNat) :
    ∃ g, f.processChunk raw offset = .ok g := by
  simp [Flt.processChunk, h]

/-- A new filter's registers (40_filter.md R121). -/
theorem fltCreate_ok {n : BitVec 16} {a b : List REAL} {f : Flt} (h : fltCreate n a b = .ok f) :
    filterOrder a b ≤ n.toNat ∧ f.allocated = true ∧ f.n = n ∧ f.a = a ∧ f.b = b ∧ f.p = filterOrder a b ∧
      f.valid = false ∧ f.demod = .none ∧ f.fw = 0 ∧ f.phase = 0 ∧ f.capLen = 0 ∧ f.capRem = 0 ∧ f.cap = [] := by
  unfold fltCreate at h
  split at h
  · injection h with h; subst h; exact ⟨‹_›, rfl, rfl, rfl, rfl, rfl, rfl, rfl, rfl, rfl, rfl, rfl, rfl⟩
  · cases h

/-! Parsing and generating. -/

/-- Parsing changes one decoder unit: its filter, its stream and its working registers, not its plugin registers. -/
theorem decParse_ok {d : DecUnit} {raw : List Sample} {s t : State} {k : Nat} (h : decParse d raw s = .ok (t, k)) :
    (∀ u, t.plug u = s.plug u) ∧
    (∃ a b c, t = { s with decOok := a, decPwm := b, decMorse := c }) ∧
    (∀ e, s.dout e <+: t.dout e) := by
  cases d with
  | raw => simp only [decParse, Except.ok.injEq, Prod.mk.injEq] at h; obtain ⟨rfl, -⟩ := h
           exact ⟨fun _ => rfl, ⟨_, _, _, rfl⟩, fun _ => List.prefix_rfl⟩
  | ook =>
    simp only [decParse, DecOok.parse] at h
    cases hf : s.decOok.core.flt.processChunk raw s.decOok.core.der.off with
    | error c => simp [hf] at h
    | ok g =>
      simp only [hf, Except.ok.injEq, Prod.mk.injEq] at h
      obtain ⟨rfl, -⟩ := h
      refine ⟨fun u => ?_, ⟨_, _, _, rfl⟩, fun e => ?_⟩
      · rcases u with (_ | _ | _ | _) | (_ | _ | _ | _ | _) <;> rfl
      · cases e <;> first | exact List.prefix_rfl | exact List.prefix_append _ _
  | pwm =>
    simp only [decParse, DecPwm.parse] at h
    cases hf : s.decPwm.core.flt.processChunk raw s.decPwm.core.der.off with
    | error c => simp [hf] at h
    | ok g =>
      simp only [hf, Except.ok.injEq, Prod.mk.injEq] at h
      obtain ⟨rfl, -⟩ := h
      refine ⟨fun u => ?_, ⟨_, _, _, rfl⟩, fun e => ?_⟩
      · rcases u with (_ | _ | _ | _) | (_ | _ | _ | _ | _) <;> rfl
      · cases e <;> first | exact List.prefix_rfl | exact List.prefix_append _ _
  | morse =>
    simp only [decParse, DecMorse.parse] at h
    cases hf : s.decMorse.core.flt.processChunk raw s.decMorse.core.der.off with
    | error c => simp [hf] at h
    | ok g =>
      simp only [hf, Except.ok.injEq, Prod.mk.injEq] at h
      obtain ⟨rfl, -⟩ := h
      refine ⟨fun u => ?_, ⟨_, _, _, rfl⟩, fun e => ?_⟩
      · rcases u with (_ | _ | _ | _) | (_ | _ | _ | _ | _) <;> rfl
      · cases e <;> first | exact List.prefix_rfl | exact List.prefix_append _ _

/-- Loading segments changes the position, the time left, the level and `done`. -/
theorem EncSeq.load_frame (gs : List Segment) (u : EncSeq) :
    ∃ i a c d, EncSeq.load gs u = { u with segIdx := i, acc := a, curOn := c, done := d } := by
  induction gs generalizing u with
  | nil => unfold EncSeq.load; split <;> exact ⟨_, _, _, _, rfl⟩
  | cons g gs ih =>
    unfold EncSeq.load
    split
    · obtain ⟨i, a, c, d, h⟩ := ih { u with curOn := g.on, segIdx := u.segIdx + 1, acc := u.acc + (g.d * u.spsNum.toNat : Nat) }
      exact ⟨i, a, c, d, h⟩
    · exact ⟨_, _, _, _, rfl⟩

/-- One sample of a bit-stream encoder leaves its plugin registers. -/
theorem EncSeq.sample_plug (u : EncSeq) : u.sample.2.plug = u.plug := by
  obtain ⟨i, a, c, d, h⟩ := EncSeq.load_frame (u.segs.drop u.segIdx.toNat) u
  simp [EncSeq.sample, h]

/-- One sample of the wave encoder leaves its plugin registers. -/
theorem EncWave.sample_plug (u : EncWave) : u.sample.2.plug = u.plug := by
  have hs : u.sweepSample.2.plug = u.plug := by
    simp only [EncWave.sweepSample]; split <;> rfl
  simp only [EncWave.sample]
  split <;> try rfl
  · split <;> rfl
  · split <;> rfl
  · exact hs

/-- One sample of the playback encoder leaves its plugin registers. -/
theorem EncWav.sample_plug (pbm : List Host.Cell) (u : EncWav) : (u.sample pbm).2.plug = u.plug := by
  have ha : u.atEnd.plug = u.plug := by
    unfold EncWav.atEnd; split <;> [split; skip] <;> rfl
  simp only [EncWav.sample]
  split <;> exact ha

/-- One sample changes one encoder unit, not its plugin registers. -/
theorem encSample_frame (e : EncUnit) (s : State) :
    (∀ u, (encSample e s).2.plug u = s.plug u) ∧
    ∃ a b c d f, (encSample e s).2 = { s with encWave := a, encWav := b, encOok := c, encPwm := d, encMorse := f } := by
  constructor
  · intro u
    cases e <;> rcases u with (_ | _ | _ | _) | (_ | _ | _ | _ | _) <;>
      first | rfl | exact EncWave.sample_plug _ | exact EncWav.sample_plug _ _ | exact EncSeq.sample_plug _
  · cases e <;> exact ⟨_, _, _, _, _, rfl⟩

/-- `k` samples: as many as asked for, and the frame of one sample. -/
theorem encSamples_frame (e : EncUnit) (k : Nat) (s : State) :
    (encSamples e k s).1.length = k ∧ (∀ u, (encSamples e k s).2.plug u = s.plug u) ∧
    ∃ a b c d f, (encSamples e k s).2 = { s with encWave := a, encWav := b, encOok := c, encPwm := d, encMorse := f } := by
  induction k generalizing s with
  | zero => exact ⟨rfl, fun _ => rfl, ⟨_, _, _, _, _, rfl⟩⟩
  | succ k ih =>
    obtain ⟨h1, h2, a, b, c, d, f, h3⟩ := ih (encSample e s).2
    obtain ⟨g2, a', b', c', d', f', g3⟩ := encSample_frame e s
    refine ⟨by simp [encSamples, h1], fun u => (h2 u).trans (g2 u), a, b, c, d, f, ?_⟩
    change (encSamples e k (encSample e s).2).2 = _
    rw [h3, g3]

/-- The search keeps within its candidates, whatever their distances. -/
theorem le_bestLenFrom (w count len best : Nat) (h : best ≤ len) : best ≤ bestLenFrom w count len best := by
  induction count generalizing len best with
  | zero => exact Nat.le_refl _
  | succ count ih =>
    rw [bestLenFrom]
    split
    · exact Nat.le_trans h (ih (len + 1) len (by omega))
    · exact ih (len + 1) best (by omega)

/-- An iteration has more than half its nominal length. -/
theorem half_lt_bestLen (lnom w : Nat) : lnom / 2 < bestLen lnom w :=
  le_bestLenFrom w _ _ _ (by omega)

/-- Generating as many samples as there is room for never fails. -/
theorem encPrepare_of_le {e : EncUnit} {k cap : Nat} (h : k ≤ cap) (s : State) :
    encPrepare e k cap s = .ok (encSamples e k s) := by
  simp [encPrepare, Nat.not_lt.2 h]

end Sys2Proof.Machine
end

