-- ==== Sys2Proof/Laws/Moves.lean ====
section
/-! SUPPORT. TRANSPORT's accesses: once, everything each can do, and what TRANSPORT has after another request word. -/

namespace Sys2Proof.Machine

/-- A fatal error raised in a state that is not halted. -/
theorem raiseFatal_eq {s : State} (h : s.halted = false) (c : FatalCode) :
    s.raiseFatal c = { s with halted := true, fatalCode := c.code } := by
  simp [State.raiseFatal, h]

/-- Everything TRANSPORT's read of a pool can answer. -/
theorem lineRead_cases (pool : List PoolBuf) (n : Nat) (lent : Bool) (j i : Nat) :
    (pool.length ≤ j ∧ lineRead pool n lent j i = .error .index) ∨
    (∃ b, pool[j]? = some b ∧ (lent = false ∨ b.owner ≠ .transport) ∧ lineRead pool n lent j i = .error .ownership) ∨
    (∃ b, pool[j]? = some b ∧ lent = true ∧ b.owner = .transport ∧ n ≤ i ∧ lineRead pool n lent j i = .error .index) ∨
    (∃ b, pool[j]? = some b ∧ lent = true ∧ b.owner = .transport ∧ i < n ∧
      lineRead pool n lent j i = .ok (Memory.read b.samples i)) := by
  cases hb : pool[j]? with
  | none =>
    have hj := List.getElem?_eq_none_iff.1 hb
    exact .inl ⟨hj, by simp [lineRead, bufRead, Nat.not_lt.2 hj]⟩
  | some b =>
    have hj := (List.getElem?_eq_some_iff.1 hb).1
    cases lent
    · exact .inr (.inl ⟨b, rfl, .inl rfl, by simp [lineRead, hj]⟩)
    · by_cases ho : b.owner = .transport
      · by_cases hi : i < n
        · exact .inr (.inr (.inr ⟨b, rfl, rfl, ho, hi, by simp [lineRead, bufRead, hb, ho, hi]⟩))
        · exact .inr (.inr (.inl ⟨b, rfl, rfl, ho, Nat.le_of_not_lt hi, by simp [lineRead, bufRead, hb, ho, hi]⟩))
      · exact .inr (.inl ⟨b, rfl, .inr ho, by simp [lineRead, bufRead, hb, ho]⟩)

/-- Everything TRANSPORT's write of a pool can answer. -/
theorem lineWrite_cases (pool : List PoolBuf) (n : Nat) (lent : Bool) (j i : Nat) (v : Sample) :
    (pool.length ≤ j ∧ lineWrite pool n lent j i v = .error .index) ∨
    (∃ b, pool[j]? = some b ∧ (lent = false ∨ b.owner ≠ .transport) ∧ lineWrite pool n lent j i v = .error .ownership) ∨
    (∃ b, pool[j]? = some b ∧ lent = true ∧ b.owner = .transport ∧ n ≤ i ∧
      lineWrite pool n lent j i v = .error .index) ∨
    (∃ b, pool[j]? = some b ∧ lent = true ∧ b.owner = .transport ∧ i < n ∧
      lineWrite pool n lent j i v = .ok (pool.set j { b with samples := Memory.write b.samples i v })) := by
  cases hb : pool[j]? with
  | none =>
    have hj := List.getElem?_eq_none_iff.1 hb
    exact .inl ⟨hj, by simp [lineWrite, bufWrite, Nat.not_lt.2 hj]⟩
  | some b =>
    have hj := (List.getElem?_eq_some_iff.1 hb).1
    cases lent
    · exact .inr (.inl ⟨b, rfl, .inl rfl, by simp [lineWrite, hj]⟩)
    · by_cases ho : b.owner = .transport
      · by_cases hi : i < n
        · exact .inr (.inr (.inr ⟨b, rfl, rfl, ho, hi, by simp [lineWrite, bufWrite, hb, ho, hi]⟩))
        · exact .inr (.inr (.inl ⟨b, rfl, rfl, ho, Nat.le_of_not_lt hi, by simp [lineWrite, bufWrite, hb, ho, hi]⟩))
      · exact .inr (.inl ⟨b, rfl, .inr ho, by simp [lineWrite, bufWrite, hb, ho]⟩)

/-- Everything TRANSPORT's read of a TX buffer can do: a fatal error, or one sample on the line. -/
theorem transportRead_cases (s : State) (j i : Nat) :
    (s.txPool.length ≤ j ∧ transportRead j i s = s.raiseFatal .index) ∨
    (∃ b, s.txPool[j]? = some b ∧ (s.txLent j = false ∨ b.owner ≠ .transport) ∧
      transportRead j i s = s.raiseFatal .ownership) ∨
    (∃ b, s.txPool[j]? = some b ∧ s.txLent j = true ∧ b.owner = .transport ∧ s.txs.n.toNat ≤ i ∧
      transportRead j i s = s.raiseFatal .index) ∨
    (∃ b, s.txPool[j]? = some b ∧ s.txLent j = true ∧ b.owner = .transport ∧ i < s.txs.n.toNat ∧
      transportRead j i s = s.toLine j i (Memory.read b.samples i)) := by
  rcases lineRead_cases s.txPool s.txs.n.toNat (s.txLent j) j i with
    ⟨h, e⟩ | ⟨b, hb, h, e⟩ | ⟨b, hb, hl, ho, hi, e⟩ | ⟨b, hb, hl, ho, hi, e⟩
  · exact .inl ⟨h, by rw [transportRead, e]⟩
  · exact .inr (.inl ⟨b, hb, h, by rw [transportRead, e]⟩)
  · exact .inr (.inr (.inl ⟨b, hb, hl, ho, hi, by rw [transportRead, e]⟩))
  · exact .inr (.inr (.inr ⟨b, hb, hl, ho, hi, by rw [transportRead, e]⟩))

/-- Everything TRANSPORT's write of an RX buffer can do: a fatal error, or what `BufWrite` does. -/
theorem transportWrite_cases (s : State) (j i : Nat) (v : Sample) :
    (∃ c, transportWrite j i v s = s.raiseFatal c ∧ (c = .index ∨ c = .ownership)) ∨
    (∃ b, s.rxPool[j]? = some b ∧ s.rxLent j = true ∧ b.owner = .transport ∧ i < s.rxs.n.toNat ∧
      transportWrite j i v s =
        { s with rxPool := s.rxPool.set j { b with samples := Memory.write b.samples i v } }) := by
  rcases lineWrite_cases s.rxPool s.rxs.n.toNat (s.rxLent j) j i v with
    ⟨-, e⟩ | ⟨b, -, -, e⟩ | ⟨b, -, -, -, -, e⟩ | ⟨b, hb, hl, ho, hi, e⟩
  · exact .inl ⟨_, by rw [transportWrite, e], .inl rfl⟩
  · exact .inl ⟨_, by rw [transportWrite, e], .inr rfl⟩
  · exact .inl ⟨_, by rw [transportWrite, e], .inl rfl⟩
  · exact .inr ⟨b, hb, hl, ho, hi, by rw [transportWrite, e]⟩

/-- Everything TRANSPORT's write of a TX buffer can do: a fatal error, or what `BufWrite` does. -/
theorem transportTxWrite_cases (s : State) (j i : Nat) (v : Sample) :
    (∃ c, transportTxWrite j i v s = s.raiseFatal c ∧ (c = .index ∨ c = .ownership)) ∨
    (∃ b, s.txPool[j]? = some b ∧ s.txLent j = true ∧ b.owner = .transport ∧ i < s.txs.n.toNat ∧
      transportTxWrite j i v s =
        { s with txPool := s.txPool.set j { b with samples := Memory.write b.samples i v } }) := by
  rcases lineWrite_cases s.txPool s.txs.n.toNat (s.txLent j) j i v with
    ⟨-, e⟩ | ⟨b, -, -, e⟩ | ⟨b, -, -, -, -, e⟩ | ⟨b, hb, hl, ho, hi, e⟩
  · exact .inl ⟨_, by rw [transportTxWrite, e], .inl rfl⟩
  · exact .inl ⟨_, by rw [transportTxWrite, e], .inr rfl⟩
  · exact .inl ⟨_, by rw [transportTxWrite, e], .inl rfl⟩
  · exact .inr ⟨b, hb, hl, ho, hi, by rw [transportTxWrite, e]⟩

/-- Everything TRANSPORT's read of an RX buffer can do: a fatal error, or one sample on the line. -/
theorem transportRxRead_cases (s : State) (j i : Nat) :
    (∃ c, transportRxRead j i s = s.raiseFatal c ∧ (c = .index ∨ c = .ownership)) ∨
    (∃ b, s.rxPool[j]? = some b ∧ s.rxLent j = true ∧ b.owner = .transport ∧ i < s.rxs.n.toNat ∧
      transportRxRead j i s = s.toLine j i (Memory.read b.samples i)) := by
  rcases lineRead_cases s.rxPool s.rxs.n.toNat (s.rxLent j) j i with
    ⟨-, e⟩ | ⟨b, -, -, e⟩ | ⟨b, -, -, -, -, e⟩ | ⟨b, hb, hl, ho, hi, e⟩
  · exact .inl ⟨_, by rw [transportRxRead, e], .inl rfl⟩
  · exact .inl ⟨_, by rw [transportRxRead, e], .inr rfl⟩
  · exact .inl ⟨_, by rw [transportRxRead, e], .inl rfl⟩
  · exact .inr ⟨b, hb, hl, ho, hi, by rw [transportRxRead, e]⟩

/-- A TX request emitted is the last TRANSPORT takes. -/
theorem txGrantAfter_append (g : Option Grant) (ws : List Word) (w : Word) :
    txGrantAfter g (ws ++ [w]) = if w.code = 0x90 then some ⟨w.unit, w.arg⟩ else txGrantAfter g ws := by
  simp [txGrantAfter]

/-- An RX request or abort emitted is the last TRANSPORT takes. -/
theorem rxGrantAfter_append (g : Option Grant) (ws : List Word) (w : Word) :
    rxGrantAfter g (ws ++ [w]) =
      if w.code = 0x91 then some ⟨w.unit, w.arg⟩
      else if w.code = 0x92 then Grant.endIf w.unit (rxGrantAfter g ws) else rxGrantAfter g ws := by
  simp [rxGrantAfter]

end Sys2Proof.Machine
end

