-- ==== Sys2Proof/Machine/Parametric.lean ====
section
/-! DEFINITION. The machine for any value of the parameters of 00_scope.md R9. The host's names `exec`, `step` and
`State.reset` take no parameters and stand for PLCPHY's own, `Params.plcphy` (Laws/Params.lean); `execWith`, `stepWith` and
`State.resetWith` are the same machine for a value `P`. An instruction whose meaning depends on no parameter has no `P`. -/

namespace Sys2Proof.Machine

/-- The meaning of an instruction for the parameters `P`. -/
def execWith (P : Params) (i : Instr) (s : State) : Host.Outcome State Fault Refusal :=
  match i with
  | .createDecOok => execCreateDecOok s P
  | .createDecPwm => execCreateDecPwm s P
  | .createDecMorse => execCreateDecMorse s P
  | .createDecRaw => execCreateDecRaw s P
  | .createEncWave => execCreateEncWave s P
  | .createEncWav => execCreateEncWav s P
  | .createEncOok => execCreateEncOok s P
  | .createEncPwm => execCreateEncPwm s P
  | .createEncMorse => execCreateEncMorse s P
  | .getAcceptedSettingsDecOok => execGetAcceptedSettingsDecOok s P
  | .getAcceptedSettingsDecPwm => execGetAcceptedSettingsDecPwm s P
  | .getAcceptedSettingsDecMorse => execGetAcceptedSettingsDecMorse s P
  | .getAcceptedSettingsDecRaw => execGetAcceptedSettingsDecRaw s P
  | .getAcceptedSettingsEncWave => execGetAcceptedSettingsEncWave s P
  | .getAcceptedSettingsEncWav => execGetAcceptedSettingsEncWav s P
  | .getAcceptedSettingsEncOok => execGetAcceptedSettingsEncOok s P
  | .getAcceptedSettingsEncPwm => execGetAcceptedSettingsEncPwm s P
  | .getAcceptedSettingsEncMorse => execGetAcceptedSettingsEncMorse s P
  | .beginSettingsDecOok => execBeginSettingsDecOok s
  | .beginSettingsDecPwm => execBeginSettingsDecPwm s
  | .beginSettingsDecMorse => execBeginSettingsDecMorse s
  | .beginSettingsDecRaw => execBeginSettingsDecRaw s
  | .beginSettingsEncWave => execBeginSettingsEncWave s
  | .beginSettingsEncWav => execBeginSettingsEncWav s
  | .beginSettingsEncOok => execBeginSettingsEncOok s
  | .beginSettingsEncPwm => execBeginSettingsEncPwm s
  | .beginSettingsEncMorse => execBeginSettingsEncMorse s
  | .setSettingDecOok id value => execSetSettingDecOok id value s P
  | .setSettingDecPwm id value => execSetSettingDecPwm id value s P
  | .setSettingDecMorse id value => execSetSettingDecMorse id value s P
  | .setSettingDecRaw id value => execSetSettingDecRaw id value s P
  | .setSettingEncWave id value => execSetSettingEncWave id value s P
  | .setSettingEncWav id value => execSetSettingEncWav id value s P
  | .setSettingEncOok id value => execSetSettingEncOok id value s P
  | .setSettingEncPwm id value => execSetSettingEncPwm id value s P
  | .setSettingEncMorse id value => execSetSettingEncMorse id value s P
  | .endSettingsDecOok => execEndSettingsDecOok s P
  | .endSettingsDecPwm => execEndSettingsDecPwm s P
  | .endSettingsDecMorse => execEndSettingsDecMorse s P
  | .endSettingsDecRaw => execEndSettingsDecRaw s P
  | .endSettingsEncWave => execEndSettingsEncWave s P
  | .endSettingsEncWav => execEndSettingsEncWav s P
  | .endSettingsEncOok => execEndSettingsEncOok s P
  | .endSettingsEncPwm => execEndSettingsEncPwm s P
  | .endSettingsEncMorse => execEndSettingsEncMorse s P
  | .releaseDecOok => execReleaseDecOok s
  | .releaseDecPwm => execReleaseDecPwm s
  | .releaseDecMorse => execReleaseDecMorse s
  | .releaseDecRaw => execReleaseDecRaw s
  | .releaseEncWave => execReleaseEncWave s
  | .releaseEncWav => execReleaseEncWav s
  | .releaseEncOok => execReleaseEncOok s
  | .releaseEncPwm => execReleaseEncPwm s
  | .releaseEncMorse => execReleaseEncMorse s
  | .getStatusDecOok => execGetStatusDecOok s
  | .getStatusDecPwm => execGetStatusDecPwm s
  | .getStatusDecMorse => execGetStatusDecMorse s
  | .getStatusDecRaw => execGetStatusDecRaw s
  | .getStatusEncWave => execGetStatusEncWave s
  | .getStatusEncWav => execGetStatusEncWav s
  | .getStatusEncOok => execGetStatusEncOok s
  | .getStatusEncPwm => execGetStatusEncPwm s
  | .getStatusEncMorse => execGetStatusEncMorse s
  | .initializeDecOok n => execInitializeDecOok n s P
  | .initializeDecPwm n => execInitializeDecPwm n s P
  | .initializeDecMorse n => execInitializeDecMorse n s P
  | .initializeDecRaw n => execInitializeDecRaw n s P
  | .parseNextSamplesDecOok raw => execParseNextSamplesDecOok raw s P
  | .parseNextSamplesDecPwm raw => execParseNextSamplesDecPwm raw s P
  | .parseNextSamplesDecMorse raw => execParseNextSamplesDecMorse raw s P
  | .parseNextSamplesDecRaw raw => execParseNextSamplesDecRaw raw s P
  | .terminateDecOok => execTerminateDecOok s
  | .terminateDecPwm => execTerminateDecPwm s
  | .terminateDecMorse => execTerminateDecMorse s
  | .terminateDecRaw => execTerminateDecRaw s
  | .readDecodedDecOok m => execReadDecodedDecOok m s
  | .readDecodedDecPwm m => execReadDecodedDecPwm m s
  | .readDecodedDecMorse m => execReadDecodedDecMorse m s
  | .readDecodedDecRaw m => execReadDecodedDecRaw m s
  | .readCaptureDecOok m => execReadCaptureDecOok m s P
  | .readCaptureDecPwm m => execReadCaptureDecPwm m s P
  | .readCaptureDecMorse m => execReadCaptureDecMorse m s P
  | .resetEncWave => execResetEncWave s
  | .resetEncWav => execResetEncWav s
  | .resetEncOok => execResetEncOok s
  | .resetEncPwm => execResetEncPwm s
  | .resetEncMorse => execResetEncMorse s
  | .prepareNextSamplesEncWave k => execPrepareNextSamplesEncWave k s P
  | .prepareNextSamplesEncWav k => execPrepareNextSamplesEncWav k s P
  | .prepareNextSamplesEncOok k => execPrepareNextSamplesEncOok k s P
  | .prepareNextSamplesEncPwm k => execPrepareNextSamplesEncPwm k s P
  | .prepareNextSamplesEncMorse k => execPrepareNextSamplesEncMorse k s P
  | .pbLoad format channels bits data => execPbLoad format channels bits data s P
  | .fltCreate n a b => execFltCreate n a b s P
  | .fltSetDemod mode fw => execFltSetDemod mode fw s
  | .fltSetCapture count => execFltSetCapture count s P
  | .fltProcessChunk offset raw => execFltProcessChunk offset raw s P
  | .fltReadOutput => execFltReadOutput s P
  | .fltReadCapture m => execFltReadCapture m s P
  | .fltRelease => execFltRelease s
  | .txBind unit => execTxBind unit s P
  | .txStart n => execTxStart n s P
  | .txStop => execTxStop s
  | .txStatus => execTxStatus s
  | .rxBind unit => execRxBind unit s P
  | .rxStart n => execRxStart n s P
  | .rxStop => execRxStop s
  | .rxStatus => execRxStatus s
  | .sysStatus => execSysStatus s
  | .evTxSent buf count => execEvTxSent buf count s
  | .evRxCaptured buf count => execEvRxCaptured buf count s
  | .reqTxSend buf count => execReqTxSend buf count s
  | .reqRxCapture buf count => execReqRxCapture buf count s
  | .reqRxAbort buf count => execReqRxAbort buf count s

/-- One step of the system for the parameters `P` (00_scope.md R9, R12). -/
def stepWith (P : Params) (s : State) : Host.Outcome State Fault Refusal :=
  match moveStep (nextMove s) s P (execWith P) with
  | .next t => .next (endMove s t)
  | .fault r => .fault r
  | .refused r => .refused r

end Sys2Proof.Machine
end

