-- ==== Sys2Proof/Laws/Params.lean ====
section
/-! SUPPORT. The parameters of PLCPHY by name, and that they are legal (00_scope.md R9, R14, R16). -/

namespace Sys2Proof.Machine

/-! What each field of `Params.plcphy` is. -/

@[simp] theorem Params.plcphy_sampleW : Params.plcphy.sampleW = 16 := rfl
@[simp] theorem Params.plcphy_rxBits : Params.plcphy.rxBits = 12 := rfl
@[simp] theorem Params.plcphy_txBits : Params.plcphy.txBits = 10 := rfl
@[simp] theorem Params.plcphy_txMax : Params.plcphy.txMax = 1023 := rfl
@[simp] theorem Params.plcphy_chunkMax : Params.plcphy.chunkMax = 65535 := rfl
@[simp] theorem Params.plcphy_orderMax : Params.plcphy.orderMax = 15 := rfl
@[simp] theorem Params.plcphy_capMax : Params.plcphy.capMax = 65536 := rfl
@[simp] theorem Params.plcphy_strMax : Params.plcphy.strMax = 255 := rfl
@[simp] theorem Params.plcphy_pbMax : Params.plcphy.pbMax = 1048576 := rfl
@[simp] theorem Params.plcphy_sweepLutMax : Params.plcphy.sweepLutMax = 1048576 := rfl
@[simp] theorem Params.plcphy_txPool : Params.plcphy.txPool = 2 := rfl
@[simp] theorem Params.plcphy_rxPool : Params.plcphy.rxPool = 2 := rfl
@[simp] theorem Params.plcphy_rxOverlap : Params.plcphy.rxOverlap = false := rfl
@[simp] theorem Params.plcphy_txPreload : Params.plcphy.txPreload = true := rfl
@[simp] theorem Params.plcphy_filterPresets : Params.plcphy.filterPresets = Machine.filterPresets := rfl
@[simp] theorem Params.plcphy_morseTable : Params.plcphy.morseTable = Machine.morseTable := rfl
@[simp] theorem Params.plcphy_morseUnits : Params.plcphy.morseUnits = ⟨1, 3, 1, 3, 7⟩ := rfl
@[simp] theorem Params.plcphy_abi : Params.plcphy.abi = abiRecord := rfl
@[simp] theorem Params.plcphy_ofInt : Params.plcphy.num.ofInt = Num.ofInt := rfl
@[simp] theorem Params.plcphy_add : Params.plcphy.num.add = Num.add := rfl
@[simp] theorem Params.plcphy_sub : Params.plcphy.num.sub = Num.sub := rfl
@[simp] theorem Params.plcphy_mul : Params.plcphy.num.mul = Num.mul := rfl
@[simp] theorem Params.plcphy_div : Params.plcphy.num.div = Num.div := rfl
@[simp] theorem Params.plcphy_abs : Params.plcphy.num.abs = Num.abs := rfl
@[simp] theorem Params.plcphy_gt : Params.plcphy.num.gt = Num.gt := rfl
@[simp] theorem Params.plcphy_isZero : Params.plcphy.num.isZero = Num.isZero := rfl
@[simp] theorem Params.plcphy_cosw : Params.plcphy.num.cosw = Num.cosw := rfl
@[simp] theorem Params.plcphy_sinw : Params.plcphy.num.sinw = Num.sinw := rfl
@[simp] theorem Params.plcphy_rnd : Params.plcphy.num.rnd = Num.rnd := rfl
@[simp] theorem Params.plcphy_ofBits : Params.plcphy.num.ofBits = Num.ofBits := rfl
@[simp] theorem Params.plcphy_toBits : Params.plcphy.num.toBits = Num.toBits := rfl

/-- A container of 16 bits holds the whole half word. -/
@[simp] theorem Params.plcphy_contained (v : Sample) : Params.plcphy.contained v = v.toNat :=
  Nat.mod_eq_of_lt v.isLt

/-! The model's binary32 is a legal `Num`, and HOST reads back the REAL it wrote. -/

@[simp] theorem Num.pattern_toNat (w : Real32) : Num.pattern w.toNat = w := by simp [Num.pattern]

/-- `toBits(ofBits(w)) = w` (00_scope.md R14). -/
@[simp] theorem Num.toBits_ofBits (w : Word) : Num.toBits (Num.ofBits w) = w := Num.pattern_toNat w

theorem Binary32.magBits_pack (neg : Bool) {m : Nat} (h : m < 2 ^ 31) : Binary32.magBits (Binary32.pack neg m) = m := by
  cases neg <;> simp only [Binary32.magBits, Binary32.pack, BitVec.toNat_ofNat] <;> norm_num at h ⊢ <;> omega

theorem Binary32.magBits_clampUnit (v : Real32) : Binary32.magBits (Binary32.clampUnit v) ≤ Binary32.magBits Binary32.one := by
  have h1 : Binary32.magBits Binary32.one < 2 ^ 31 := by decide
  rw [Binary32.clampUnit, Binary32.magBits_pack _ (lt_of_le_of_lt (min_le_right _ _) h1)]
  exact min_le_right _ _

/-- Every cosine lies in -1..1 by its magnitude bits. -/
theorem Binary32.magBits_cosw (p : BitVec 32) : Binary32.magBits (Binary32.cosw p) ≤ Binary32.magBits Binary32.one := by
  unfold Binary32.cosw
  split; · exact le_rfl
  split; · decide
  split; · decide
  split; · decide
  exact Binary32.magBits_clampUnit _

theorem Binary32.orderKey_bounds (v : Real32) :
    -(Binary32.magBits v : Int) ≤ Binary32.orderKey v ∧ Binary32.orderKey v ≤ Binary32.magBits v := by
  unfold Binary32.orderKey; split <;> omega

/-- binary32 with the model's `cosw` meets R16. -/
theorem Num.binary32_legal : Num.binary32.Legal where
  cos0 := by decide
  cos1 := by decide
  cos2 := by decide
  cos3 := by decide
  upper p := by
    have h := Binary32.magBits_cosw p
    have hk := Binary32.orderKey_bounds (Binary32.cosw p)
    have h1 : Binary32.orderKey (Binary32.ofInt 1) = Binary32.magBits Binary32.one := by decide
    have : ¬ Binary32.orderKey (Binary32.ofInt 1) < Binary32.orderKey (Binary32.cosw p) := by omega
    change Binary32.gt (Num.pattern (Binary32.cosw p).toNat) (Num.pattern (Binary32.ofInt 1).toNat) = false
    simp [Binary32.gt, this]
  lower p := by
    have h := Binary32.magBits_cosw p
    have hk := Binary32.orderKey_bounds (Binary32.cosw p)
    have h1 : Binary32.orderKey (Binary32.ofInt (-1)) = -(Binary32.magBits Binary32.one : Int) := by decide
    have : ¬ Binary32.orderKey (Binary32.cosw p) < Binary32.orderKey (Binary32.ofInt (-1)) := by omega
    change Binary32.gt (Num.pattern (Binary32.ofInt (-1)).toNat) (Num.pattern (Binary32.cosw p).toNat) = false
    simp [Binary32.gt, this]

/-- The values this spec decides for PLCPHY meet the constraints of R9. -/
theorem Params.plcphy_legal : Params.plcphy.Legal where
  sampleW := by decide
  rxBits := by decide
  txBits := by decide
  chunkMax := by decide
  txPool := by decide
  rxPool := by decide
  num := Num.binary32_legal
  presets := by decide
  identity := ⟨⟨"none", [0x3F800000], [0x3F800000]⟩, rfl, by decide, by decide⟩
  morseChars := by decide
  morseCodes := by decide
  morseElements := by decide
  morseGaps := by decide

/-! The host's machine is the machine for PLCPHY's parameters. -/

theorem execWith_plcphy : execWith .plcphy = exec := by
  funext i s; cases i <;> rfl

theorem stepWith_plcphy : stepWith .plcphy = step := by
  funext s; rw [stepWith, execWith_plcphy]; rfl

end Sys2Proof.Machine
end

