-- ==== Sys2Proof/Tests/Slice0.lean ====
section
/-! SUPPORT. Tests: ill-formed terms, words and vectors of the spec (95_test_vectors.md and the worked examples of the
rules), and for each statement with hypotheses a state and operands that meet them all. -/

namespace Sys2Proof.Tests

open Sys2Proof.Machine

set_option Elab.async false

/-! Well-formedness: each check refuses an ill-formed term. -/

/-- Tag u32 with no value word, tag bool with two, and a string of 5 bytes in one word (30_encoding.md R98). -/
theorem test_wf_setting :
    Instr.wf (.setSettingDecOok 1 ⟨6, []⟩) = false ∧ Instr.wf (.setSettingEncWav 26 ⟨0, [1, 1]⟩) = false ∧
    Instr.wf (.setSettingEncMorse 27 ⟨11, [5, 0x20534F53]⟩) = false ∧
    Instr.wf (.setSettingEncMorse 27 ⟨11, [5, 0x20534F53, 0x31]⟩) = true := by decide

/-- 65,536 samples do not fit the 16-bit `arg` field; 65,535 do (30_encoding.md R95). -/
theorem test_wf_samples :
    (∀ raw : List Sample, raw.length = 65536 → Instr.wf (.parseNextSamplesDecRaw raw) = false) ∧
    ∀ raw : List Sample, raw.length = 65535 → Instr.wf (.parseNextSamplesDecRaw raw) = true := by
  constructor <;> intro raw h <;> simp only [Instr.wf, samplesFitArg, h] <;> decide

/-- A count of 2^32 does not fit its payload word (30_encoding.md R94). -/
theorem test_wf_counts :
    (∀ data : List Byte, data.length = 4294967296 → Instr.wf (.pbLoad 1 1 8 data) = false) ∧
    (∀ c : List Real32, c.length = 4294967296 → Instr.wf (.fltCreate 1 c []) = false ∧ Instr.wf (.fltCreate 1 [] c) = false) ∧
    ∀ raw : List Sample, raw.length = 4294967296 → Instr.wf (.fltProcessChunk 0 raw) = false := by
  refine ⟨?_, fun c h => ⟨?_, ?_⟩, ?_⟩ <;> (try intro c h) <;> simp [Instr.wf, fitsWord, h]

/-! Decoding: words written out from 30_encoding.md R91 to R102. -/

/-- Each list of words decodes to its instruction, with no word left. -/
abbrev Decodes (rows : List (List Word × Instr)) : Prop := ∀ e ∈ rows, decode e.1 = .instr e.2 []

/-- 30_encoding.md R92, R93: `CREATE` is opcode 0x01; the field `arg` is ignored (R100). -/
theorem test_decode_create : Decodes [
  ([0x0101BEEF], .createDecOok),
  ([0x0102BEEF], .createDecPwm),
  ([0x0103BEEF], .createDecMorse),
  ([0x0104BEEF], .createDecRaw),
  ([0x0108BEEF], .createEncWave),
  ([0x0109BEEF], .createEncWav),
  ([0x010ABEEF], .createEncOok),
  ([0x010BBEEF], .createEncPwm),
  ([0x010CBEEF], .createEncMorse) ] := by decide

/-- Opcode 0x02 (R93). -/
theorem test_decode_getAcceptedSettings : Decodes [
  ([0x02010000], .getAcceptedSettingsDecOok),
  ([0x02020000], .getAcceptedSettingsDecPwm),
  ([0x02030000], .getAcceptedSettingsDecMorse),
  ([0x02040000], .getAcceptedSettingsDecRaw),
  ([0x02080000], .getAcceptedSettingsEncWave),
  ([0x02090000], .getAcceptedSettingsEncWav),
  ([0x020A0000], .getAcceptedSettingsEncOok),
  ([0x020B0000], .getAcceptedSettingsEncPwm),
  ([0x020C0000], .getAcceptedSettingsEncMorse) ] := by decide

/-- Opcode 0x03 (R93). -/
theorem test_decode_beginSettings : Decodes [
  ([0x03010000], .beginSettingsDecOok),
  ([0x03020000], .beginSettingsDecPwm),
  ([0x03030000], .beginSettingsDecMorse),
  ([0x03040000], .beginSettingsDecRaw),
  ([0x03080000], .beginSettingsEncWave),
  ([0x03090000], .beginSettingsEncWav),
  ([0x030A0000], .beginSettingsEncOok),
  ([0x030B0000], .beginSettingsEncPwm),
  ([0x030C0000], .beginSettingsEncMorse) ] := by decide

/-- Opcode 0x04: `arg` is the identifier, the payload a tag and a value (R95, R98; 95_test_vectors.md 3.1). -/
theorem test_decode_setSetting : Decodes [
  ([0x04010000, 0x00000006, 0x000003E8], .setSettingDecOok 0 ⟨0x00000006, [0x000003E8]⟩),
  ([0x04020001, 0x0000000C, 0x00000002], .setSettingDecPwm 1 ⟨0x0000000C, [0x00000002]⟩),
  ([0x04030002, 0x00000000, 0x00000001], .setSettingDecMorse 2 ⟨0x00000000, [0x00000001]⟩),
  ([0x04040003, 0x00000006, 0x00000001], .setSettingDecRaw 3 ⟨0x00000006, [0x00000001]⟩),
  ([0x04080004, 0x00000004, 0x00000258], .setSettingEncWave 4 ⟨0x00000004, [0x00000258]⟩),
  ([0x04090005, 0x00000002, 0x00000109], .setSettingEncWav 5 ⟨0x00000002, [0x00000109]⟩),
  ([0x040A001B, 0x0000000B, 0x00000001, 0x000000A5], .setSettingEncOok 27 ⟨0x0000000B, [0x00000001, 0x000000A5]⟩),
  ([0x040B0007, 0x00000005, 0xFFFFFFFF], .setSettingEncPwm 7 ⟨0x00000005, [0xFFFFFFFF]⟩),
  ([0x040C001B, 0x0000000B, 0x00000005, 0x20534F53, 0x00000031], .setSettingEncMorse 27 ⟨0x0000000B, [0x00000005, 0x20534F53, 0x00000031]⟩) ] := by decide

/-- A 64-bit value takes two words (R98), a word that is no tag none (R101), a string of no bytes its length word. -/
theorem test_decode_setSettingTags : Decodes [
  ([0x04010000, 0x00000008, 0x00000001, 0x00000002], .setSettingDecOok 0 ⟨8, [1, 2]⟩),
  ([0x04010000, 0x0000000E], .setSettingDecOok 0 ⟨14, []⟩),
  ([0x040A001B, 0x0000000B, 0x00000000], .setSettingEncOok 27 ⟨11, [0]⟩) ] := by decide

/-- Opcode 0x05 (R93). -/
theorem test_decode_endSettings : Decodes [
  ([0x05010000], .endSettingsDecOok),
  ([0x05020000], .endSettingsDecPwm),
  ([0x05030000], .endSettingsDecMorse),
  ([0x05040000], .endSettingsDecRaw),
  ([0x05080000], .endSettingsEncWave),
  ([0x05090000], .endSettingsEncWav),
  ([0x050A0000], .endSettingsEncOok),
  ([0x050B0000], .endSettingsEncPwm),
  ([0x050C0000], .endSettingsEncMorse) ] := by decide

/-- Opcode 0x06 (R93). -/
theorem test_decode_release : Decodes [
  ([0x06010000], .releaseDecOok),
  ([0x06020000], .releaseDecPwm),
  ([0x06030000], .releaseDecMorse),
  ([0x06040000], .releaseDecRaw),
  ([0x06080000], .releaseEncWave),
  ([0x06090000], .releaseEncWav),
  ([0x060A0000], .releaseEncOok),
  ([0x060B0000], .releaseEncPwm),
  ([0x060C0000], .releaseEncMorse) ] := by decide

/-- Opcode 0x07 (R93). -/
theorem test_decode_getStatus : Decodes [
  ([0x07010000], .getStatusDecOok),
  ([0x07020000], .getStatusDecPwm),
  ([0x07030000], .getStatusDecMorse),
  ([0x07040000], .getStatusDecRaw),
  ([0x07080000], .getStatusEncWave),
  ([0x07090000], .getStatusEncWav),
  ([0x070A0000], .getStatusEncOok),
  ([0x070B0000], .getStatusEncPwm),
  ([0x070C0000], .getStatusEncMorse) ] := by decide

/-- Opcode 0x10: `arg` is the chunk size (R95). -/
theorem test_decode_initialize : Decodes [
  ([0x1001FF01], .initializeDecOok 0xFF01),
  ([0x1002FF02], .initializeDecPwm 0xFF02),
  ([0x1003FF03], .initializeDecMorse 0xFF03),
  ([0x1004FF04], .initializeDecRaw 0xFF04) ] := by decide

/-- Opcode 0x11: `arg` samples, two a word, the low half first (R94; 95_test_vectors.md 3.1). -/
theorem test_decode_parseNextSamples : Decodes [
  ([0x11010000], .parseNextSamplesDecOok []),
  ([0x11020003, 0x02C80200, 0x00000200], .parseNextSamplesDecPwm [512, 712, 512]),
  ([0x11030001, 0x0000FFFF], .parseNextSamplesDecMorse [0xFFFF]),
  ([0x11040002, 0x00020001], .parseNextSamplesDecRaw [1, 2]) ] := by decide

/-- Opcode 0x12 (R93). -/
theorem test_decode_terminate : Decodes [
  ([0x12010000], .terminateDecOok),
  ([0x12020000], .terminateDecPwm),
  ([0x12030000], .terminateDecMorse),
  ([0x12040000], .terminateDecRaw) ] := by decide

/-- Opcode 0x13: `arg` is the number of bytes (R95). -/
theorem test_decode_readDecoded : Decodes [
  ([0x13011201], .readDecodedDecOok 0x1201),
  ([0x13021202], .readDecodedDecPwm 0x1202),
  ([0x13031203], .readDecodedDecMorse 0x1203),
  ([0x13041204], .readDecodedDecRaw 0x1204) ] := by decide

/-- Opcode 0x14, on units 1 to 3 (R93). -/
theorem test_decode_readCapture : Decodes [
  ([0x14013401], .readCaptureDecOok 0x3401),
  ([0x14023402], .readCaptureDecPwm 0x3402),
  ([0x14033403], .readCaptureDecMorse 0x3403) ] := by decide

/-- Opcode 0x18 (R93). -/
theorem test_decode_reset : Decodes [
  ([0x18080000], .resetEncWave),
  ([0x18090000], .resetEncWav),
  ([0x180A0000], .resetEncOok),
  ([0x180B0000], .resetEncPwm),
  ([0x180C0000], .resetEncMorse) ] := by decide

/-- Opcode 0x19: `arg` is the number of samples (R95). -/
theorem test_decode_prepareNextSamples : Decodes [
  ([0x19085608], .prepareNextSamplesEncWave 0x5608),
  ([0x19095609], .prepareNextSamplesEncWav 0x5609),
  ([0x190A560A], .prepareNextSamplesEncOok 0x560A),
  ([0x190B560B], .prepareNextSamplesEncPwm 0x560B),
  ([0x190C560C], .prepareNextSamplesEncMorse 0x560C) ] := by decide

/-- Opcode 0x1A, unit 9: the word of 95_test_vectors.md 3.1. -/
theorem test_decode_pbLoad : Decodes [
  ([0x1A090000, 0x00010001, 0x00000008, 0x00000004, 0x40FF8000], .pbLoad 1 1 8 [0x00, 0x80, 0xFF, 0x40]) ] := by decide

/-- Opcodes 0x20 to 0x26, unit 0: the words of 95_test_vectors.md P2 and 3.1. -/
theorem test_decode_flt : Decodes [
  ([0x20000004, 0x00000002, 0x00000001, 0x3F800000, 0xBF400000, 0x3E800000], .fltCreate 4 [0x3F800000, 0xBF400000] [0x3E800000]),
  ([0x21000002, 0x40000000], .fltSetDemod 2 0x40000000),
  ([0x22000000, 0x00000003], .fltSetCapture 3),
  ([0x23000200, 0x00000003, 0x00020001, 0x00000003], .fltProcessChunk 512 [1, 2, 3]),
  ([0x24000000], .fltReadOutput),
  ([0x25000008], .fltReadCapture 8),
  ([0x26000000], .fltRelease) ] := by decide

/-- Opcodes 0x30 to 0x33, unit 16, 0x38 to 0x3B, unit 17, and 0x3F, unit 255 (95_test_vectors.md 3.1, P3, P4). -/
theorem test_decode_schedulers : Decodes [
  ([0x3010000A], .txBind 10),
  ([0x31100008], .txStart 8),
  ([0x32100000], .txStop),
  ([0x33100000], .txStatus),
  ([0x38110001], .rxBind 1),
  ([0x391103E8], .rxStart 1000),
  ([0x3A110000], .rxStop),
  ([0x3B110000], .rxStatus),
  ([0x3FFF0000], .sysStatus) ] := by decide

/-- The words of the event port (30_encoding.md R102; 95_test_vectors.md 3.1). -/
theorem test_decode_events :
    decodeEvent 0x80010100 = some (.evTxSent 1 256) ∧ decodeEvent 0x810003E8 = some (.evRxCaptured 0 1000) ∧
    decodeEvent 0x90010100 = some (.reqTxSend 1 256) ∧ decodeEvent 0x910003E8 = some (.reqRxCapture 0 1000) ∧
    decodeEvent 0x92000000 = some (.reqRxAbort 0 0) ∧ decodeEvent 0x93000000 = none ∧
    decodeEvent 0x3FFF0000 = none := by decide

/-- The illegal words of 95_test_vectors.md 3.1: no payload is consumed (R100). -/
theorem test_decode_illegal :
    decode [0x00000000, 7] = .illegal [7] ∧ decode [0x01050000, 7] = .illegal [7] ∧
    decode [0x100A0004] = .illegal [] ∧ decode [0x14040004] = .illegal [] ∧ decode [0x1A080000] = .illegal [] ∧
    decode [0x80010100] = .illegal [] := by decide

/-- A transaction whose words are not all there is not executed (R101; log entry 2); words after one are left. -/
theorem test_decode_partial :
    decode [] = .incomplete ∧ decode [0x11020003, 0x02C80200] = .incomplete ∧
    decode [0x040A001B, 0x0000000B] = .incomplete ∧ decode [0x3FFF0000, 0x01010000] = .instr .sysStatus [0x01010000] := by
  decide

/-- The words the host asks of a row: bit 0 is the least significant bit of the first word. -/
theorem test_decode_tableWord :
    decodeTableWord 32 0x0101BEEF = some .createDecOok ∧ decodeTableWord 64 0x4000000021000002 = some (.fltSetDemod 2 0x40000000) ∧
    decodeTableWord 32 0x11020003 = some (.parseNextSamplesDecPwm [0, 0, 0]) ∧
    decodeTableWord 32 0x92000000 = some (.reqRxAbort 0 0) ∧ decodeTableWord 32 0x01050000 = none := by decide

/-! One step or one operation each, against the spec's worked examples and vectors. -/

/-- What an outcome answers, where there is a next state. -/
def answer (o : Host.Outcome State Fault Refusal) : Option (List Word) :=
  match o with
  | .next t => some t.rsp
  | _ => none

/-- A part of the next state, where there is one. -/
def after {α : Type} (o : Host.Outcome State Fault Refusal) (f : State → α) : Option α :=
  match o with
  | .next t => some (f t)
  | _ => none

/-- The plugin registers of a unit in lifecycle state `lc`, with default settings but those given. -/
def plugAt (u : PluginUnit) (lc : Lc) (ready : Bool) (vals : List (Nat × SetVal)) : Plug :=
  { Plug.created u with
    lc := lc, ready := ready, settings := (defaultSettings u).map (fun e => (e.1, (vals.lookup e.1).getD e.2)) }

/-- The state after reset with one unit in lifecycle state `lc`. -/
def unitAt (u : PluginUnit) (lc : Lc) (ready : Bool) (vals : List (Nat × SetVal)) : State :=
  State.reset.setPlug u (plugAt u lc ready vals)

/-- A unit configured by the body of `END_SETTINGS`, and an encoder then `RESET`. -/
def encReady (e : EncUnit) (vals : List (Nat × SetVal)) : State :=
  resetBody e (deriveUnit (.enc e) (unitAt (.enc e) .idle true vals)).1

/-- A filter as `FLT_CREATE` makes it. -/
def fltNew (n : BitVec 16) (a b : List REAL) : Flt :=
  match fltCreate n a b with
  | .ok f => f
  | .error _ => Flt.reset

/-- The state after reset with this filter. -/
def withFlt (f : Flt) : State := { State.reset with flt := f }

/-- A decoder configured and initialised for chunks of `n`. -/
def decReady (d : DecUnit) (n : BitVec 16) (vals : List (Nat × SetVal)) : State :=
  match initializeBody d n (deriveUnit (.dec d) (unitAt (.dec d) .idle true vals)).1 with
  | .done t _ _ _ => t
  | _ => State.reset

/-- A TX session of 8-sample buffers on ENC_OOK in RUNNING.WAIT with buffer 0 in flight (95_test_vectors.md P3 step 14). -/
def txWaiting : State :=
  let s := (encReady .ook [])
  { s.setPlug (.enc .ook) { s.encOok.plug with bound := .tx } with
    txs := { Txs.reset with state := .running, phase := .wait, enc := some .ook, n := 8, fillIdx := 1,
                            inflight := some 0, cycles := 1 },
    txPool := [⟨.transport, [(0, 512), (1, 712)]⟩, ⟨.sched, [(0, 512)]⟩], txFilled := [true, true],
    txHas := some 0, txGrant := some ⟨0, 8⟩ }

/-- An RX session of chunks of 5 on DEC_OOK in RUNNING.WAIT with buffer 0 armed (95_test_vectors.md P4 step 4). -/
def rxWaiting : State :=
  let s := decReady .ook 5 [(0, .u32 2500)]
  { s.setPlug (.dec .ook) { s.decOok.core.plug with bound := .rx } with
    rxs := { Rxs.reset with state := .running, phase := .wait, dec := some .ook, n := 5, armedBuf := some 0 },
    rxPool := [⟨.transport, [(0, 712), (1, 712), (2, 712), (3, 712), (4, 712)]⟩, ⟨.sched, []⟩],
    rxHas := some 0, rxGrant := some ⟨0, 5⟩ }

/-- The same session in RUNNING.DISPATCH, the buffer captured. -/
def rxDispatching : State :=
  { rxWaiting with
    rxs := { rxWaiting.rxs with phase := .dispatch, armedBuf := none, pending := 1, wrIdx := 1 },
    rxPool := setOwner rxWaiting.rxPool 0 .sched, rxHas := none, rxGrant := none }

/-! The lifecycle (41_lifecycle_settings.md; 95_test_vectors.md 3.2). -/

/-- L1: nothing but `CREATE` and `GET_STATUS` is admitted in ABSENT. -/
theorem test_absent :
    answer (exec .getStatusDecOok State.reset) = some [0x00010000, 0] ∧
    answer (exec .beginSettingsDecOok State.reset) = some [0x00000002] ∧
    answer (exec .releaseDecOok State.reset) = some [0x00000002] := by decide

/-- L2: a created unit refuses `CREATE` and is not ready. -/
theorem test_created :
    answer (exec .createDecOok (unitAt (.dec .ook) .idle false [])) = some [0x00000102] ∧
    answer (exec (.initializeDecOok 8) (unitAt (.dec .ook) .idle false [])) = some [0x00000008] := by decide

/-- The example of R149: `GET_STATUS` after a configuration error with message 2. -/
theorem test_getStatus :
    answer (exec .getStatusDecOok
      (State.reset.setPlug (.dec .ook) { plugAt (.dec .ook) .idle false [] with errStatus := 7, errMsg := 2 })) =
      some [0x00010000, 0x00020701] := by decide

/-- L9: the records of ENC_WAV, and DEC_RAW's empty list. -/
theorem test_acceptedSettings :
    answer (exec .getAcceptedSettingsEncWav (unitAt (.enc .wav) .idle false [])) =
      some [0x000D0000, 2, 0x01040011, 6, 0x7366666F, 0x00007465, 0x00000200, 0, 0x0000FFFF,
            0x0000001A, 6, 0x65706572, 0x00007461, 0] ∧
    answer (exec .getAcceptedSettingsDecRaw (unitAt (.dec .raw) .idle false [])) = some [0x00010000, 0] := by decide

/-- The refusals of `SET_SETTING` in 95_test_vectors.md 3.1: wrong tag, unknown, out of range, not an extension. -/
theorem test_setSetting_refusals :
    let s := unitAt (.dec .ook) .config false []
    answer (exec (.setSettingDecOok 1 ⟨4, [1000]⟩) s) = some [0x00000605] ∧
    answer (exec (.setSettingDecOok 11 ⟨6, [0]⟩) s) = some [0x00000004] ∧
    answer (exec (.setSettingDecOok 7 ⟨2, [9]⟩) s) = some [0x00000006] ∧
    answer (exec (.setSettingDecOok 7 ⟨2, [0x109]⟩) s) = some [0x00000006] := by decide

/-- 3.1: a string setting is written; the bytes are packed low byte first. -/
theorem test_setSetting_string :
    after (exec (.setSettingEncMorse 27 ⟨11, [5, 0x20534F53, 0x31]⟩) (unitAt (.enc .morse) .config false []))
      (fun t => (t.rsp, t.encMorse.plug.str 27)) = some ([0], [0x53, 0x4F, 0x53, 0x20, 0x31]) := by decide

/-- V2.7: `sps_num = 999,000 < MAG`. V1.2: the derived registers of the defaults. -/
theorem test_endSettings :
    answer (exec .endSettingsDecOok (unitAt (.dec .ook) .config false [(0, .u32 1000), (1, .u32 999)])) =
      some [0x00000207] ∧
    after (exec .endSettingsDecOok (unitAt (.dec .ook) .config false []))
      (fun t => (t.rsp, t.decOok.core.der.spsNum, t.decOok.core.der.thr, t.decOok.core.der.dmode, t.decOok.ook.n75)) =
      some ([0], 100000000, 0x42C80000, .abs, 75) := by decide +kernel

/-- R193 at one sample a unit: `t_dot = 1`, `t_dash = 2`, `t_char = 2`, `t_word = 5`. -/
theorem test_endSettings_morse :
    after (exec .endSettingsDecMorse (unitAt (.dec .morse) .config false [(0, .u32 1000)]))
      (fun t => (t.decMorse.morse.tDot, t.decMorse.morse.tDash, t.decMorse.morse.tChar, t.decMorse.morse.tWord)) =
      some (1, 2, 2, 5) := by decide +kernel

/-- L7: `BEGIN_SETTINGS` is admitted to an ACTIVE encoder; L6: not to an ACTIVE decoder. -/
theorem test_beginSettings :
    after (exec .beginSettingsEncWave (unitAt (.enc .wave) .active true [])) (fun t => t.encWave.plug.lc) = some .config ∧
    answer (exec .beginSettingsDecPwm (unitAt (.dec .pwm) .active true [])) = some [0x00000302] := by decide

/-- L8 and H4: a busy unit refuses before any other check; `GET_STATUS` is answered. -/
theorem test_busy :
    answer (exec (.setSettingEncOok 99 ⟨6, [0]⟩) txWaiting) = some [0x00000003] ∧
    answer (exec .getStatusEncOok txWaiting) = some [0x00010000, 0x00000017] := by decide +kernel

/-- R148: a released unit loses its binding. -/
theorem test_release :
    after (exec .releaseEncOok { txWaiting with txs := { txWaiting.txs with state := .idle } })
      (fun t => (t.encOok.plug.lc, t.encOok.plug.bound, t.txs.enc)) = some (.absent, .unbound, none) := by decide +kernel

/-! The filter (40_filter.md; 95_test_vectors.md 3.3). -/

/-- F5: the refusals of `FLT_CREATE`, and the fatal order. -/
theorem test_fltCreate :
    answer (exec (.fltCreate 0 [0x3F800000] [0x3F800000]) State.reset) = some [0x00000006] ∧
    answer (exec (.fltCreate 4 [0x80000000] [0x3F800000]) State.reset) = some [0x00000006] ∧
    answer (exec (.fltCreate 1 [0x3F800000, 0, 0] [0x3F800000]) State.reset) = some [0x0000010B] ∧
    answer (exec (.fltCreate 1 [0x3F800000, 0xBF000000] [0x3F800000]) State.reset) = some [0x00000000] := by
  decide +kernel

/-- F1: the first chunk of the recursive filter, and the second from the state the first leaves (P2 step 5, 7). -/
theorem test_fltProcessChunk :
    after (exec (.fltProcessChunk 0 [16, 16, 0, 0]) (withFlt (fltNew 4 [0x3F800000, 0xBF400000] [0x3E800000])))
      (fun t => t.flt.output) = some [0x40800000, 0x40E00000, 0x40A80000, 0x407C0000] ∧
    after (exec (.fltProcessChunk 0 [0, 64, 64, 64])
      (withFlt { fltNew 4 [0x3F800000, 0xBF400000] [0x3E800000] with
                 xb := [0, 0x41800000, 0x41800000, 0, 0], yb := [0, 0x40800000, 0x40E00000, 0x40A80000, 0x407C0000] }))
      (fun t => t.flt.output) = some [0x403D0000, 0x4191B800, 0x41ED4A00, 0x4218FBC0] := by decide +kernel

/-- F3: the mixer at the exact points of `cosw`, y = 100, 0, -100, 0. -/
theorem test_fltMixer :
    after (exec (.fltProcessChunk 512 [612, 612, 612, 612])
      (withFlt ((fltNew 4 [0x3F800000] [0x3F800000]).setDemod .cos 0x40000000)))
      (fun t => (t.flt.output, t.flt.phase)) = some ([0x42C80000, 0, 0xC2C80000, 0], 0) := by decide +kernel

/-- F4: the capture stores three outputs; `FLT_READ_CAPTURE` of 2 gives the first two. -/
theorem test_fltReadCapture :
    answer (exec (.fltReadCapture 2)
      (withFlt { fltNew 2 [0x3F800000] [0x3F800000] with
                 capLen := 3, cap := [(0, 0x40A00000), (1, 0x40C00000), (2, 0x40E00000)] })) =
      some [0x00030000, 2, 0x40A00000, 0x40C00000] := by decide +kernel

/-- P2 step 3, 3.1 and F5: no output yet, mode 3, a capture beyond `CAP_MAX`. -/
theorem test_fltRefusals :
    let s := withFlt (fltNew 4 [0x3F800000] [0x3F800000])
    answer (exec .fltReadOutput s) = some [0x00000102] ∧ answer (exec (.fltSetDemod 3 0) s) = some [0x00000006] ∧
    answer (exec (.fltSetCapture 65537) s) = some [0x00000006] ∧
    answer (exec .fltRelease State.reset) = some [0x00000002] := by decide +kernel

/-! The numbers (00_scope.md R14 to R16), by hand from IEEE 754. -/

/-- Ties go to even, a sum of opposite numbers is +0, a product may underflow to -0, 1/3 rounds up. -/
theorem test_num :
    Machine.Num.ofInt 16777217 = 0x4B800000 ∧ Machine.Num.ofInt 16777219 = 0x4B800002 ∧ Machine.Num.add 0x3F800000 0xBF800000 = 0 ∧
    Machine.Num.mul 0x00000001 0xBF000000 = 0x80000000 ∧ Machine.Num.div 0x3F800000 0x40400000 = 0x3EAAAAAB ∧
    Machine.Num.mul 0x7F7FFFFF 0x40000000 = 0x7F800000 ∧ Machine.Num.gt 0x7FC00000 0 = false ∧ Machine.Num.gt 0 0x80000000 = false := by
  decide +kernel

/-- `rnd` rounds halves up: rnd(0.5) = 1, rnd(-0.5) = 0, rnd(-1.5) = -1, rnd(2.4999998) = 2. -/
theorem test_rnd :
    Machine.Num.rnd 0x3F000000 = 1 ∧ Machine.Num.rnd 0xBF000000 = 0 ∧ Machine.Num.rnd 0xBFC00000 = -1 ∧ Machine.Num.rnd 0x401FFFFF = 2 := by
  decide +kernel

/-! Decoders (42_decoders.md; 95_test_vectors.md 3.4 to 3.7, P1). -/

/-- P1 chunk 1: the start is confirmed, one bit sampled, the cursor rebased. -/
theorem test_parse_ook_start :
    after (exec (.parseNextSamplesDecOok [712, 712, 712, 712, 712]) (decReady .ook 5 [(0, .u32 2500)]))
      (fun t => (t.rsp, t.decOok.ook.phase, t.decOok.ook.posMag, t.decOok.ook.bitcnt, t.decOok.ook.datum)) =
      some ([0x00010000, 0], .data, 1250000, 1, 1) := by decide +kernel

/-- P1 chunk 5: the eighth bit, 0xA5 emitted, back to SEARCH. -/
theorem test_parse_ook_datum :
    let s := decReady .ook 5 [(0, .u32 2500)]
    after (exec (.parseNextSamplesDecOok [712, 712, 712, 512, 512])
      { s with decOok := { s.decOok with ook := { s.decOok.ook with phase := .data, posMag := 1250000, bitcnt := 7, datum := 82 } } })
      (fun t => (t.rsp, t.decOok.ook.phase, t.decOok.ook.posMag, t.decOok.ook.bitcnt, t.decOok.core.dout)) =
      some ([0x00010000, 1], .search, 3750000, 0, [0xA5]) := by decide +kernel

/-- V2.4, lead 6, chunk 1: the start is confirmed at index 0 with its origin in the chunk before. -/
theorem test_parse_ook_carried :
    let s := decReady .ook 8 [(0, .u32 4000)]
    after (exec (.parseNextSamplesDecOok [712, 712, 712, 712, 712, 712, 512, 512])
      { s with decOok := { s.decOok with ook := { s.decOok.ook with run := 2 } } })
      (fun t => (t.decOok.ook.phase, t.decOok.ook.bitcnt, t.decOok.ook.datum, t.decOok.ook.posMag)) =
      some (.data, 1, 1, 0) := by decide +kernel

/-- R192: 66 samples of carrier are 33 units, 63 round up to 32, 62 to 31 are dropped. -/
theorem test_parse_pwm :
    let s := decReady .pwm 3 [(0, .u32 2000)]
    let run (w : BitVec 64) :=
      after (exec (.parseNextSamplesDecPwm [512, 512, 512])
        { s with decPwm := { s.decPwm with pwm := { s.decPwm.pwm with w := w } } }) (fun t => (t.rsp, t.decPwm.core.dout))
    run 66 = some ([0x00010000, 1], [0x21]) ∧ run 63 = some ([0x00010000, 1], [0x20]) ∧
    run 62 = some ([0x00010000, 0], []) ∧ run 511 = some ([0x00010000, 0], []) := by decide +kernel

/-- V2.4: one dot with lead 3 is emitted as 'E' in its chunk; M3: `.-.-` is '?'. -/
theorem test_parse_morse :
    let s := decReady .morse 6 [(0, .u32 1000)]
    after (exec (.parseNextSamplesDecMorse [512, 512, 512, 712, 512, 512]) s) (fun t => t.decMorse.core.dout) = some [0x45] ∧
    morseLookup 4 0b0001010 = 0x3F ∧ morseLookup 2 0b0000010 = 0x41 ∧ morseLookup 4 0b0000001 = 0x42 ∧
    morseLookup 7 0 = 0x3F := by decide +kernel

/-- R197: a gap of `t_word` puts a space before the next character. -/
theorem test_parse_morse_space :
    let s := decReady .morse 6 [(0, .u32 1000)]
    after (exec (.parseNextSamplesDecMorse [512, 712, 512, 512, 512, 512])
      { s with decMorse := { s.decMorse with morse := { s.decMorse.morse with wo := 4, hadChar := true } } })
      (fun t => t.decMorse.core.dout) = some [0x20, 0x45] := by decide +kernel

/-- 3.7: the raw decoder takes any number of samples. -/
theorem test_parse_raw :
    answer (exec (.parseNextSamplesDecRaw [1, 2]) (decReady .raw 4 [])) = some [0x00010000, 0] := by decide

/-- 3.1: `READ_DECODED DEC_PWM, 16` with `dout = [0x21, 0x30]`; a read of one byte leaves the other. -/
theorem test_readDecoded :
    let s := (unitAt (.dec .pwm) .idle true []).setDout .pwm [0x21, 0x30]
    answer (exec (.readDecodedDecPwm 16) s) = some [0x00020000, 2, 0x00003021] ∧
    after (exec (.readDecodedDecPwm 1) s) (fun t => (t.rsp, t.dout .pwm)) = some ([0x00020000, 1, 0x21], [0x30]) := by
  decide

/-- L6: `TERMINATE` returns to IDLE and destroys the filter; `READ_CAPTURE` then is refused. -/
theorem test_terminate :
    after (exec .terminateDecPwm (decReady .pwm 2 [])) (fun t => (t.decPwm.core.plug.lc, t.decPwm.core.flt.allocated)) =
      some (.idle, false) ∧
    answer (exec (.readCaptureDecPwm 4) (unitAt (.dec .pwm) .idle true [])) = some [0x00000102] := by decide +kernel

/-! Encoders (43_encoders.md; 95_test_vectors.md 3.8, P1). -/

/-- R215: constant, ramp, triangular and square at 8 samples a period; the sine at its exact points. -/
theorem test_wave :
    let out (k : Nat) (rate : BitVec 32) (shape : BitVec 32) :=
      (encSamples .wave k (encReady .wave [(0, .u32 rate), (16, .enum shape)])).1
    out 2 8000 0 = [512, 512] ∧ out 10 8000 1 = [312, 362, 412, 462, 512, 562, 612, 662, 312, 362] ∧
    out 10 8000 2 = [312, 412, 512, 612, 712, 612, 512, 412, 312, 412] ∧
    out 10 8000 3 = [712, 712, 712, 712, 312, 312, 312, 312, 712, 712] ∧
    out 6 4000 4 = [512, 712, 512, 312, 512, 712] := by decide +kernel

/-- R215: a square is clamped at both ends. -/
theorem test_wave_clamp :
    (encSamples .wave 5 (encReady .wave [(0, .u32 8000), (16, .enum 3), (17, .u16 100)])).1 = [300, 300, 300, 300, 0] ∧
    (encSamples .wave 5 (encReady .wave [(0, .u32 8000), (16, .enum 3), (17, .u16 900)])).1 = [1023, 1023, 1023, 1023, 700] := by
  decide +kernel

/-- R217: the last iteration of the sweep, exact; precomputed the same; then the first sample again. -/
theorem test_wave_sweep :
    let out (pre : Bool) := (encSamples .wave 27 (encReady .wave
      [(0, .u32 8000), (16, .enum 5), (21, .u32 3), (22, .u32 10), (23, .bool pre)])).1.drop 18
    out false = [512, 712, 512, 312, 512, 712, 512, 312, 512] ∧ out true = out false := by decide +kernel

/-- R225 (1): 0xA5 at two samples a symbol; (3): the carrier at its exact points. -/
theorem test_encOok :
    (encSamples .ook 26 (encReady .ook [(0, .u32 2000), (27, .string [0xA5]), (28, .u32 1), (29, .u32 1)])).1 =
      [512, 512, 712, 712, 712, 712, 512, 512, 712, 712, 512, 512, 512, 512, 712, 712, 512, 512, 712, 712, 512, 512, 512, 512,
       512, 512] ∧
    (encSamples .ook 6 (encReady .ook [(0, .u32 4000), (19, .u32 1000), (27, .string [0xF0]), (28, .u32 0), (29, .u32 0)])).1 =
      [712, 512, 312, 512, 712, 512] := by decide +kernel

/-- R230 (1), an empty pulse among them, and (2), one and a half samples a unit. -/
theorem test_encPwm :
    (encSamples .pwm 12 (encReady .pwm [(0, .u32 1000), (27, .string [3, 0, 2]), (30, .u32 2)])).1 =
      [712, 712, 712, 512, 512, 512, 512, 712, 712, 512, 512, 512] ∧
    (encSamples .pwm 12 (encReady .pwm [(0, .u32 1500), (27, .string [3, 2]), (30, .u32 1)])).1 =
      [712, 712, 712, 712, 712, 512, 712, 712, 712, 512, 512, 512] := by decide +kernel

/-- R235: the segments of "a B"; E5: a byte outside the table contributes nothing. -/
theorem test_encMorse :
    segsMorse [0x61, 0x20, 0x42] =
      [⟨true, 1⟩, ⟨false, 1⟩, ⟨true, 3⟩, ⟨false, 1⟩, ⟨false, 2⟩, ⟨false, 4⟩, ⟨true, 3⟩, ⟨false, 1⟩, ⟨true, 1⟩, ⟨false, 1⟩,
       ⟨true, 1⟩, ⟨false, 1⟩, ⟨true, 1⟩, ⟨false, 1⟩, ⟨false, 2⟩] ∧
    segsMorse [0x53, 0x21, 0x53] = segsMorse [0x53, 0x53] := by decide +kernel

/-- R244 (1) and (2): 8-bit data once; 16-bit data repeated. -/
theorem test_encWav :
    let out (bits : BitVec 16) (count : BitVec 32) (rep : Bool) (pbm : List Host.Cell) (k : Nat) :=
      let s := encReady .wav [(26, .bool rep)]
      (encSamples .wav k { s with encWav := { s.encWav with pbBits := bits, pbCount := count, lvl0 := 512, rep := rep, plug := s.encWav.plug },
                                  pbm := pbm }).1
    out 8 4 false [(0, 0x00), (1, 0x80), (2, 0xFF), (3, 0x40)] 6 = [0, 512, 1020, 256, 512, 512] ∧
    out 16 4 true [(0, 0x00), (1, 0x80), (2, 0), (3, 0), (4, 0xFF), (5, 0x7F), (6, 0x00), (7, 0x40)] 6 =
      [0, 512, 1023, 768, 0, 512] := by decide +kernel

/-- 3.1: `PREPARE_NEXT_SAMPLES ENC_WAVE, 3` of a constant; E2: 0 samples give no word. -/
theorem test_prepare :
    answer (exec (.prepareNextSamplesEncWave 3) (encReady .wave [(16, .enum 0)])) = some [0x00020000, 0x02000200, 0x00000200] ∧
    answer (exec (.prepareNextSamplesEncOok 0) (encReady .ook [])) = some [0x00000000] := by decide +kernel

/-- R244 (3): after `PB_LOAD` with 12 bits the configuration is refused and `RESET` is not ready. -/
theorem test_pbLoad :
    after (exec (.pbLoad 1 1 8 [0x00, 0x80]) (unitAt (.enc .wav) .idle true []))
      (fun t => (t.encWav.plug.ready, t.encWav.pbBytes, t.pbm)) = some (false, 2, [(0, 0x00), (1, 0x80)]) ∧
    answer (exec .endSettingsEncWav (unitAt (.enc .wav) .config false [])) = some [0x00000507] ∧
    answer (exec .resetEncWav (unitAt (.enc .wav) .idle false [])) = some [0x00000008] := by decide +kernel

/-- L7: `RESET` again restarts the waveform. -/
theorem test_reset :
    after (exec .resetEncWave { encReady .wave [] with encWave := { (encReady .wave []).encWave with phase := 7, sweepN := 3 } })
      (fun t => (t.encWave.plug.lc, t.encWave.phase, t.encWave.sweepN)) = some (.active, 0, 0) := by decide +kernel

/-! Schedulers (44_scheduler.md; 95_test_vectors.md 3.9, 3.10, P3, P4). -/

/-- T6: a decoder, no unit, an absent encoder; and a bind. -/
theorem test_bind :
    answer (exec (.txBind 1) State.reset) = some [0x00000409] ∧ answer (exec (.txBind 5) State.reset) = some [0x00000006] ∧
    answer (exec (.txBind 10) State.reset) = some [0x00001002] ∧
    after (exec (.rxBind 1) (unitAt (.dec .ook) .idle false [])) (fun t => (t.rxs.dec, t.decOok.core.plug.bound)) =
      some (some .ook, .rx) := by decide +kernel

/-- T2: the refusals of `TX_START` in their order. -/
theorem test_txStart_refusals :
    let idle := { txWaiting with txs := { txWaiting.txs with state := .idle } }
    answer (exec (.txStart 0) txWaiting) = some [0x00000302] ∧ answer (exec (.txStart 0) idle) = some [0x00000006] ∧
    answer (exec (.txStart 8) State.reset) = some [0x00000008] ∧
    answer (exec (.txStart 8) { idle with txBusy := true }) = some [0x00000103] := by decide +kernel

/-- P3 step 11 and P4 step 38: the status words. -/
theorem test_schedulerStatus :
    answer (exec .txStatus { txWaiting with txs := { txWaiting.txs with phase := .check } }) = some [0x00030000, 0x0A010003, 1, 0] ∧
    answer (exec .rxStatus { rxWaiting with rxs := { rxWaiting.rxs with wrIdx := 1, rdIdx := 1, armedBuf := some 1, captured := 7, timeouts := 1 } }) =
      some [0x00060000, 0x0101011B, 0x00000001, 7, 0, 1, 0] := by decide +kernel

/-- The session of `txWaiting` at 1000 samples a second in RUNNING.HAND, before its first hand-over. -/
def txHanding : State :=
  { txWaiting with
    txs := { txWaiting.txs with phase := .hand, inflight := none, fillIdx := 0, cycles := 0 },
    txPool := reclaimAll txWaiting.txPool, txHas := none, txGrant := none,
    encOok := { txWaiting.encOok with plug := txWaiting.encOok.plug.setSetting 0 (.u32 1000) } }

/-- P3 step 10: HAND emits the request, gives the buffer away and paces by 8 ms. -/
theorem test_txHand :
    after (txsStep txHanding) (fun t => (t.evOut, t.txs.inflight, t.txs.fillIdx, t.txs.cycles, t.txs.dueNs)) =
      some ([0x90000008], some 0, 1, 1, 8000000) ∧
    after (txsStep txHanding) (fun t => t.txPool.map (·.owner)) = some [.transport, .sched] := by decide +kernel

/-- P3 steps 14 to 16 and T5: WAIT is blocked on an empty queue; the sent buffer comes back; a wrong count is fatal. -/
theorem test_txWait :
    txsStep txWaiting = .next txWaiting ∧
    after (txsStep { txWaiting with txQueue := [0x80000008] }) (fun t => (t.txs.inflight, t.txFilled, t.txPool.map (·.owner))) =
      some (none, [false, true], [.sched, .sched]) ∧
    after (txsStep { txWaiting with txQueue := [0x80000007] }) (fun t => (t.halted, t.fatalCode)) = some (true, 3) ∧
    after (txsStep { txWaiting with txQueue := [0x80010008] }) (fun t => (t.txs.inflight, t.txQueue)) = some (some 0, []) := by
  exact ⟨rfl, by decide +kernel, by decide +kernel, by decide +kernel⟩

/-- T4: a forced stop answers `E_STOP_FORCED`. -/
theorem test_joinExpiry :
    after (joinExpiryStep { txWaiting with stopWait := some .tx }) (fun t => (t.txs.statusWords, answer (hostStep t))) =
      some ([0x0A01FF80, 1, 0], some [0x0000000A]) := by decide +kernel

/-- P4 steps 5 to 7: the captured buffer is dispatched to the decoder. -/
theorem test_rxDispatch :
    after (rxsStep { rxWaiting with rxQueue := [0x81000005] }) (fun t => (t.rxs.phase, t.rxs.pending, t.rxs.wrIdx)) =
      some (.dispatch, 1, 1) ∧
    after (rxsStep rxDispatching) (fun t => (t.rxs.captured, t.rxs.rdIdx, t.rxs.pending, t.decOok.ook.bitcnt)) =
      some (1, 1, 0, 1) := by decide +kernel

/-- P4 step 14: the capture timeout aborts the capture and triggers the same buffer again. -/
theorem test_captureTimeout :
    let t := captureTimeoutStep rxWaiting
    (t.evOut, t.rxs.timeouts, t.rxs.armedBuf, t.rxs.phase, t.rxs.wrIdx, t.rxPool.map (·.owner)) =
      ([0x92000000], 1, none, .check, 0, [.sched, .sched]) := by decide +kernel

/-- X3: a stop before the first step; the decoder is terminated. -/
theorem test_rxStop :
    after (exec .rxStop rxWaiting) (fun t => (t.rxs.stopReq, t.stopWait, t.rsp)) = some (true, some .rx, []) ∧
    after (rxsStep { rxWaiting with rxs := { rxWaiting.rxs with state := .stopping, armedBuf := none } })
      (fun t => (t.rxs.state, t.decOok.core.plug.lc, t.decOok.core.flt.allocated)) = some (.idle, .idle, false) := by
  decide +kernel

/-! Halt, reset, the event port (60_exceptions.md; 95_test_vectors.md 3.11, P5). -/

/-- P5 steps 3 to 7: the fatal error, the status word, and the halted answers. -/
theorem test_halt :
    answer (exec (.fltProcessChunk 0 [1, 2, 3]) (withFlt (fltNew 4 [0x3F800000] [0x3F800000]))) = some [0x0000020B] ∧
    answer (exec .sysStatus { State.reset with halted := true, fatalCode := 2 }) = some [0x00010000, 0x00010201] ∧
    answer (exec .createDecOok { State.reset with halted := true, fatalCode := 2 }) = some [0x0000020B] ∧
    answer (hostStep { State.reset with halted := true, fatalCode := 2, cmdIn := [0] }) = some [0x0000020B] := by
  decide +kernel

/-- H3: the reset input from a running session. -/
theorem test_rst :
    after (step { txWaiting with agenda := [.rst] }) (fun t => (t.txs.statusWords, t.encOok.plug.statusBits)) =
      some ([0xFF00FF00, 0, 0], 0) := by decide +kernel

/-- R312 and R102: an event word is queued, halted or not; a request word names TRANSPORT's buffer. -/
theorem test_events :
    after (exec (.evTxSent 1 256) { State.reset with halted := true }) (fun t => t.txQueue) = some [0x80010100] ∧
    after (exec (.evRxCaptured 0 1000) State.reset) (fun t => t.rxQueue) = some [0x810003E8] ∧
    after (exec (.reqTxSend 1 256) State.reset) (fun t => t.txGrant) = some (some ⟨1, 256⟩) ∧
    after (exec (.reqRxAbort 0 0) { State.reset with rxGrant := some ⟨0, 5⟩ }) (fun t => t.rxGrant) = some none := by decide

/-- R62: TRANSPORT's read of a buffer that is the scheduler's is F_OWNERSHIP, past the session's length F_INDEX. -/
theorem test_transport :
    (transportRead 1 0 txWaiting).fatalCode = 5 ∧ (transportRead 0 8 txWaiting).fatalCode = 4 ∧
    (transportRead 0 1 txWaiting).line = [712] := by decide +kernel

/-- R62 on the accesses R354 (2) excludes: of its own buffer TRANSPORT may write a TX sample and read an RX sample. -/
theorem test_transport_against_direction :
    (transportTxWrite 0 1 9 txWaiting).txPool.head? = some ⟨.transport, [(0, 512), (1, 9)]⟩ ∧
    (transportTxWrite 1 0 9 txWaiting).fatalCode = 5 ∧ (transportRxRead 0 4 rxWaiting).line = [712] ∧
    (transportRxRead 0 5 rxWaiting).fatalCode = 4 := by decide +kernel

/-- R354 (1): after TRANSPORT's own completion event, the request taken or not, after an abort, and after reset, an access to the buffer is F_OWNERSHIP. -/
theorem test_transport_late :
    after (exec (.evTxSent 0 8) txWaiting) (fun t => ((transportRead 0 1 t).fatalCode, (t.txPool.map (·.owner)).head?)) =
      some (5, some .transport) ∧
    after (exec (.evRxCaptured 0 5) rxWaiting) (fun t => (transportWrite 0 1 9 t).fatalCode) = some 5 ∧
    after (exec (.evTxSent 0 8) { txWaiting with txGrant := none, evOut := [0x90000008] })
      (fun t => (transportRead 0 1 t).fatalCode) = some 5 ∧
    after (exec (.evRxCaptured 0 5) { rxWaiting with rxGrant := none, evOut := [0x91000005] })
      (fun t => (transportWrite 0 1 9 t).fatalCode) = some 5 ∧
    (transportWrite 0 1 9 (captureTimeoutStep rxWaiting)).fatalCode = 5 ∧
    (transportRead 0 0 State.reset).fatalCode = 5 ∧ (transportRead 2 0 State.reset).fatalCode = 4 := by decide +kernel

/-- A `Num` in which a pattern names the REAL one above it, so that the pattern 0 is no zero (00_scope.md R14). -/
def shiftedNum : Numerics :=
  { Num.binary32 with ofBits := fun w => w.toNat + 1, isZero := fun v => decide (v = 1000), toBits := fun v => BitVec.ofNat 32 (v - 1) }

/-- R14, R121: `FLT_CREATE` tests the REAL a pattern names, and keeps it. -/
theorem test_fltCreate_any_num :
    answer (execFltCreate 1 [999] [7] State.reset { Params.plcphy with num := shiftedNum }) = some [0x00000006] ∧
    after (execFltCreate 1 [0] [7] State.reset { Params.plcphy with num := shiftedNum }) (fun t => (t.flt.a, t.flt.b)) =
      some ([1], [8]) := by decide

/-- The PLCPHY whose DEC_PWM has this ABI record (44_scheduler.md R261: a parameter, 00_scope.md R9). -/
def withAbi (r : AbiRecord) : Params :=
  { Params.plcphy with abi := fun u => if u = .dec .pwm then r else Params.plcphy.abi u }

/-- P4 step 1 (R261): major 0 is refused as kind 1, a small table as kind 2, a missing entry as kind 3. -/
theorem test_bind_abi :
    let s := unitAt (.dec .pwm) .idle false []
    answer (execRxBind 2 s (withAbi ⟨.decoder, 0, 9, 9, 0xFFFF⟩)) = some [0x00000109] ∧
    answer (execRxBind 2 s (withAbi ⟨.decoder, 1, 0, 8, 0xFFFF⟩)) = some [0x00000209] ∧
    answer (execRxBind 2 s (withAbi ⟨.decoder, 1, 0, 9, 0xFFFE⟩)) = some [0x00000309] ∧
    answer (execRxBind 2 s (withAbi ⟨.encoder, 1, 0, 9, 0xFFFF⟩)) = some [0x00000409] ∧
    answer (execRxBind 2 s) = some [0x00000000] := by decide

/-- The next step after `withFetchWord` runs the row's instruction, from reset. -/
theorem test_withFetchWord :
    after (step (State.reset.withFetchWord 32 0x0101BEEF)) (fun t => (t.rsp, t.decOok.core.plug.lc)) = some ([0], .idle) ∧
    after (step (State.reset.withFetchWord 32 0x3FFF0000)) (fun t => t.rsp) = some [0x00010000, 0x00010000] ∧
    after (step (State.reset.withFetchWord 32 0x81000005)) (fun t => t.rxQueue) = some [0x81000005] ∧
    after (step (State.reset.withFetchWord 32 0x90000008)) (fun t => (t.evOut, t.txGrant)) = some ([], some ⟨0, 8⟩) := by
  decide +kernel

/-! Each statement with hypotheses holds of something: a state and operands that meet them together, one for each clause,
at a boundary where the clause has one. -/

/-- A computation that succeeds has a result. -/
theorem exists_ok {ε α : Type} {x : Except ε α} (h : (match x with | .ok _ => true | .error _ => false) = true) :
    ∃ a, x = .ok a := by
  cases x with
  | error e => cases h
  | ok a => exact ⟨a, rfl⟩

theorem test_hyp_DecodeReadsEveryEncodedInstruction :
    Instr.wf (.setSettingEncMorse 27 ⟨11, [5, 0x20534F53, 0x31]⟩) = true ∧
    Instr.isCommand (.setSettingEncMorse 27 ⟨11, [5, 0x20534F53, 0x31]⟩) = true ∧
    Instr.wf (.parseNextSamplesDecRaw []) = true ∧ Instr.isCommand (.parseNextSamplesDecRaw []) = true ∧
    Instr.isCommand (.reqRxAbort 0xFF 0xFFFF) = false := by decide

theorem test_hyp_DecodedCommandsAreWellFormedAndSelfContained :
    decode [0x11020003, 0x02C80200, 0x00000200, 9] = .instr (.parseNextSamplesDecPwm [512, 712, 512]) [9] := by decide

theorem test_hyp_IllegalCommandWordsAnswerBadCommand :
    definedPair 0x14 4 = false ∧ definedPair 0x14 3 = true ∧ definedPair 0x07 13 = false ∧
    (let s := { State.reset with cmdIn := [0x01050000], agenda := [.turn .host] }
     s.agenda = .turn .host :: [] ∧ s.stopWait = none ∧ s.cmdIn = 0x01050000 :: []) ∧
    definedPair (0x01050000 : Word).code.toNat (0x01050000 : Word).unit.toNat = false := by decide

theorem test_hyp_StepRunsTheDecodedCommand :
    let s := { State.reset with cmdIn := [0x0101BEEF, 7], agenda := [.turn .host] }
    s.agenda = .turn .host :: [] ∧ s.stopWait = none ∧ decode s.cmdIn = .instr .createDecOok [7] ∧
    Instr.wf .createDecOok = true := by decide

theorem test_hyp_StepRunsTheWordsOfTheEventPort :
    (let s := { State.reset with evIn := [0x81000005], agenda := [.turn .event] }
     s.agenda = .turn .event :: [] ∧ s.evIn = 0x81000005 :: [] ∧ (0x81000005 : Word).code = 0x81 ∧
       decodeEvent 0x81000005 = some (.evRxCaptured 0 5)) ∧
    (0x90000005 : Word).code ≠ 0x80 ∧ (0x90000005 : Word).code ≠ 0x81 ∧
    (let s := { State.reset with evOut := [0x92000000], agenda := [.turn .request] }
     s.agenda = .turn .request :: [] ∧ s.evOut = 0x92000000 :: [] ∧ decodeEvent 0x92000000 = some (.reqRxAbort 0 0)) := by
  decide

theorem test_hyp_HaltedCommandsAnswerHalted :
    let s := { State.reset with halted := true, fatalCode := 2, cmdIn := [0x00000000] }
    let q := { s with cmdIn := [0x24000000] }
    let p := { s with stopWait := some .rx }
    Instr.isCommand .fltReadOutput = true ∧ Instr.fltReadOutput ≠ .sysStatus ∧ s.halted = true ∧ s.stopWait = none ∧
    s.cmdIn = 0x00000000 :: [] ∧ definedPair (0x00000000 : Word).code.toNat (0x00000000 : Word).unit.toNat = false ∧
    decode q.cmdIn = .instr .fltReadOutput [] ∧ p.stopWait = some .rx := by decide

theorem test_hyp_BusyUnitsRefuse :
    Instr.view .releaseEncOok = .plugin .release (.enc .ook) ∧ txWaiting.halted = false ∧
    txWaiting.busy (.enc .ook) = true ∧ PluginOp.whileBusy .release = false ∧
    Instr.view (.parseNextSamplesDecOok []) = .plugin .parse (.dec .ook) ∧ rxWaiting.busy (.dec .ook) = true := by
  decide +kernel

theorem test_hyp_LifecycleTableRefuses :
    (let s := unitAt (.dec .pwm) .active true []
     Instr.view .beginSettingsDecPwm = .plugin .beginSet (.dec .pwm) ∧ s.halted = false ∧ s.busy (.dec .pwm) = false ∧
       (s.plug (.dec .pwm)).lc ∉ PluginOp.states .beginSet (.dec .pwm)) ∧
    (Instr.view (.readCaptureDecPwm 4) = .plugin .readCapture (.dec .pwm) ∧ PluginOp.whileBusy .readCapture = true ∧
       (State.reset.plug (.dec .pwm)).lc ∉ PluginOp.states .readCapture (.dec .pwm)) := by decide

/-- A unit in lifecycle state `lc` and nothing else admits the commands of that state. -/
theorem test_hyp_admits : ∀ u : PluginUnit, Admits State.reset u .absent ∧ Admits (unitAt u .idle false []) u .idle ∧
    Admits (unitAt u .config false []) u .config ∧ Admits (unitAt u .active true []) u .active := by
  intro u
  rcases u with (_ | _ | _ | _) | (_ | _ | _ | _ | _) <;>
    exact ⟨⟨rfl, rfl, rfl⟩, ⟨rfl, rfl, rfl⟩, ⟨rfl, rfl, rfl⟩, ⟨rfl, rfl, rfl⟩⟩

theorem test_hyp_LifecycleTableRefuses_notReady :
    ((unitAt (.dec .raw) .idle false []).plug (.dec .raw)).ready = false ∧
    ((unitAt (.enc .wav) .idle false []).plug (.enc .wav)).ready = false ∧
    ((unitAt (.enc .wav) .active false []).plug (.enc .wav)).ready = false := by decide

/-- A refusal by a plugin unit, one by the filter, a fatal error, and a command while halted. -/
theorem test_hyp_RefusedCommandsChangeErrStatusOnly :
    (∀ i ∈ [Instr.createDecOok, .fltRelease, .fltProcessChunk 0 [1]], Instr.isCommand i = true ∧
      ∀ u, Instr.view i ≠ .plugin .setSetting u ∧ Instr.view i ≠ .plugin .endSet u) ∧
    (∃ t, exec .createDecOok (unitAt (.dec .ook) .idle false []) = .next t ∧ t.rsp = [0x00000102]) ∧
    (∃ t, exec .fltRelease State.reset = .next t ∧ t.rsp = [0x00000002]) ∧
    (∃ t, exec (.fltProcessChunk 0 [1]) (withFlt (fltNew 4 [0x3F800000] [0x3F800000])) = .next t ∧ t.rsp = [0x0000020B]) ∧
    (∃ t, exec .createDecOok { State.reset with halted := true, fatalCode := 2 } = .next t ∧ t.rsp = [0x0000020B]) ∧
    (0x00000102 : Word).extractLsb' 0 8 ≠ 0 :=
  ⟨fun i hi => by
    rcases List.mem_cons.1 hi with rfl | hi
    · exact ⟨by decide, fun u => ⟨by simp [Instr.view], by simp [Instr.view]⟩⟩
    rcases List.mem_cons.1 hi with rfl | hi
    · exact ⟨by decide, fun u => ⟨by simp [Instr.view], by simp [Instr.view]⟩⟩
    cases List.mem_singleton.1 hi
    exact ⟨by decide, fun u => ⟨by simp [Instr.view], by simp [Instr.view]⟩⟩,
   ⟨_, rfl, rfl⟩, ⟨_, rfl, rfl⟩, ⟨_, rfl, rfl⟩, ⟨_, rfl, rfl⟩, by decide⟩

/-- The TX session of `txWaiting` with an event of a wrong count queued, TXS to take the next step. -/
def txBadCount : State := { txWaiting with txQueue := [0x80000007], agenda := [.turn .txs] }

/-- The RX session of `rxWaiting` with an event of a wrong count queued, RXS to take the next step. -/
def rxBadCount : State := { rxWaiting with rxQueue := [0x81000004], agenda := [.turn .rxs] }

theorem test_inv_txPool : TxPoolInv txBadCount where
  owner := by decide +kernel
  filledSize := by decide +kernel
  fillIdx := by decide +kernel
  inflight := fun j h => by
    have : txBadCount.txs.inflight = some 0 := by decide +kernel
    rw [this] at h; cases h; decide
  idle := by decide +kernel
  starting := by decide +kernel
  running := by decide +kernel
  filled := by decide +kernel
  hand := by decide +kernel
  session := by decide +kernel

theorem test_inv_txPool_rxSide : RxPoolInv txBadCount where
  owner := by decide +kernel
  wrIdx := by decide +kernel
  pending := by decide +kernel
  rdIdx := by decide +kernel
  running := by decide +kernel
  quiet := by decide +kernel
  session := by decide +kernel

theorem test_inv_rxPool : RxPoolInv rxBadCount where
  owner := by decide +kernel
  wrIdx := by decide +kernel
  pending := by decide +kernel
  rdIdx := by decide +kernel
  running := by decide +kernel
  quiet := by decide +kernel
  session := by decide +kernel

theorem test_inv_rxPool_txSide : TxPoolInv rxBadCount where
  owner := by decide +kernel
  filledSize := by decide +kernel
  fillIdx := by decide +kernel
  inflight := fun j h => by
    have : rxBadCount.txs.inflight = none := by decide +kernel
    rw [this] at h; cases h
  idle := by decide +kernel
  starting := by decide +kernel
  running := by decide +kernel
  filled := by decide +kernel
  hand := by decide +kernel
  session := by decide +kernel

theorem test_inv_txSession : SessionInv txBadCount where
  txBound := by intro e; cases e <;> decide +kernel
  rxBound := by intro d; cases d <;> decide +kernel
  absent := by intro u; rcases u with (_ | _ | _ | _) | (_ | _ | _ | _ | _) <;> decide +kernel
  tx := fun _ => ⟨.ook, by decide +kernel, by decide +kernel⟩
  rx := fun h => absurd (by decide +kernel) h

theorem test_inv_rxSession : SessionInv rxBadCount where
  txBound := by intro e; cases e <;> decide +kernel
  rxBound := by intro d; cases d <;> decide +kernel
  absent := by intro u; rcases u with (_ | _ | _ | _) | (_ | _ | _ | _ | _) <;> decide +kernel
  tx := fun h => absurd (by decide +kernel) h
  rx := fun _ => ⟨.ook, by decide +kernel, by decide +kernel, fun f h => by
    have : rxBadCount.decFlt .ook = some rxBadCount.decOok.core.flt := rfl
    rw [this] at h; cases h; decide +kernel⟩

theorem test_inv_memories : MemoriesCanonical txBadCount where
  tx := by decide +kernel
  rx := by decide +kernel
  pbm := by decide +kernel
  flt := by decide +kernel
  ook := by decide +kernel
  pwm := by decide +kernel
  morse := by decide +kernel

theorem test_inv_levels : LevelInv txBadCount where
  wave := by decide +kernel
  lut := by decide +kernel
  wav := by decide +kernel
  ook := by decide +kernel
  pwm := by decide +kernel
  morse := by decide +kernel

/-- The steps the invariants are asked to survive are there, and halt with `F_COUNT`. -/
theorem test_hyp_SessionsRaiseNoErrorButCount :
    txBadCount.halted = false ∧ after (txsStep txBadCount) (fun t => (t.halted, t.fatalCode)) = some (true, 3) ∧
    rxBadCount.halted = false ∧ after (rxsStep rxBadCount) (fun t => (t.halted, t.fatalCode)) = some (true, 3) ∧
    after (step txBadCount) (fun t => t.halted) = some true ∧ after (step rxBadCount) (fun t => t.halted) = some true := by
  decide +kernel

/-- The TX session of `txWaiting`, TRANSPORT about to report its buffer. -/
def txSent : State := { txWaiting with evIn := [0x80000008], agenda := [.turn .event] }

/-- The RX session of `rxWaiting`, TRANSPORT about to report its buffer. -/
def rxCaptured : State := { rxWaiting with evIn := [0x81000005], agenda := [.turn .event] }

/-- Both sessions meet the invariants of the pools and of the bindings. -/
theorem test_inv_reporting :
    TxPoolInv txSent ∧ RxPoolInv txSent ∧ SessionInv txSent ∧ TxPoolInv rxCaptured ∧ RxPoolInv rxCaptured ∧
    SessionInv rxCaptured :=
  have a := test_inv_txPool
  have b := test_inv_txPool_rxSide
  have c := test_inv_txSession
  have d := test_inv_rxPool_txSide
  have e := test_inv_rxPool
  have f := test_inv_rxSession
  ⟨⟨a.owner, a.filledSize, a.fillIdx, a.inflight, a.idle, a.starting, a.running, a.filled, a.hand, a.session⟩,
   ⟨b.owner, b.wrIdx, b.pending, b.rdIdx, b.running, b.quiet, b.session⟩,
   ⟨c.txBound, c.rxBound, c.absent, c.tx, c.rx⟩,
   ⟨d.owner, d.filledSize, d.fillIdx, d.inflight, d.idle, d.starting, d.running, d.filled, d.hand, d.session⟩,
   ⟨e.owner, e.wrIdx, e.pending, e.rdIdx, e.running, e.quiet, e.session⟩,
   ⟨f.txBound, f.rxBound, f.absent, f.tx, f.rx⟩⟩

theorem test_inv_transport_tx : TransportInv txSent where
  requests := by rw [show txSent.evOut = [] by decide +kernel]; nofun
  txOnce := by decide +kernel
  tx := by decide +kernel
  txQueue := fun _ => .inl rfl
  rx := by decide +kernel
  rxQueue := .inl rfl
  txHas := by decide +kernel
  rxHas := by decide +kernel

theorem test_inv_transport_rx : TransportInv rxCaptured where
  requests := by rw [show rxCaptured.evOut = [] by decide +kernel]; nofun
  txOnce := by decide +kernel
  tx := by decide +kernel
  txQueue := fun _ => .inl rfl
  rx := by decide +kernel
  rxQueue := .inl rfl
  txHas := by decide +kernel
  rxHas := by decide +kernel

/-- TRANSPORT reports the buffer it has, reads and writes its last sample; HOST's turn with nothing lent. -/
theorem test_hyp_SessionsRaiseNoErrorButCount_keeps :
    TransportKeeps txSent ∧ TransportKeeps rxCaptured ∧ TransportKeeps { txWaiting with agenda := [.txRead 0 7] } ∧
    TransportKeeps { rxWaiting with agenda := [.rxWrite 0 4 4095] } ∧
    TransportKeeps { State.reset with agenda := [.turn .host] } ∧
    after (step txSent) (fun t => (t.halted, t.txQueue, t.txGrant)) = some (false, [0x80000008], none) ∧
    after (step rxCaptured) (fun t => (t.halted, t.rxQueue, t.rxGrant)) = some (false, [0x81000005], none) := by
  refine ⟨fun w h => ?_, fun w h => ?_, ⟨by decide +kernel, _, rfl, by decide, by decide⟩,
    ⟨⟨_, rfl, by decide, by decide⟩, by decide, fun r h => ?_⟩, fun _ _ => rfl, by decide +kernel, by decide +kernel⟩
  · cases h
    exact ⟨fun _ => by decide, fun h => absurd h (by decide)⟩
  · cases h
    exact ⟨fun h => absurd h (by decide), fun _ => ⟨by decide, fun r h => by
      rw [show rxCaptured.evOut = [] by decide +kernel] at h; cases h⟩⟩
  · rw [show ({ rxWaiting with agenda := [.rxWrite 0 4 4095] } : State).evOut = [] by decide +kernel] at h; cases h

theorem test_hyp_TheHaltLatchHoldsUntilReset :
    let s := { State.reset with halted := true, fatalCode := 5, cmdIn := [0x01010000], agenda := [.turn .host] }
    State.reset.halted = false ∧ s.halted = true ∧ nextMove s ≠ .rst ∧
    after (step s) (fun t => (t.halted, t.rsp)) = some (true, [0x0000050B]) := by decide

/-- TRANSPORT's write and its event word while PLCPHY is halted. -/
theorem test_hyp_TheHaltLatchHoldsUntilReset_transport :
    let s := { rxWaiting with halted := true, fatalCode := 3 }
    after (step { s with agenda := [.rxWrite 0 1 9] }) (fun t => (t.rxPool.head?, t.halted)) =
      some (some ⟨.transport, [(0, 712), (1, 9), (2, 712), (3, 712), (4, 712)]⟩, true) ∧
    after (step { s with evIn := [0x81000005], agenda := [.turn .event] }) (fun t => (t.rxQueue, t.halted)) =
      some ([0x81000005], true) := by decide +kernel

theorem test_hyp_TheResetInputRestoresEveryRegister :
    ({ txWaiting with agenda := [.rst, .turn .host] }).agenda = .rst :: [.turn .host] := rfl

theorem test_hyp_AcceptedSettingsAreDescribed :
    txWaiting.halted = false ∧ (txWaiting.plug (.enc .ook)).lc ≠ .absent := by decide +kernel

/-- A setting at the ends of its legal range: `bits_per_datum` 1 and 8; `sampling_rate_sps` 2^32 - 1. -/
theorem test_hyp_SetSettingWritesOneRegister :
    (∃ d, settingDef? (.dec .ook) 7 = some d ∧ (2 : Word).toNat = d.default.tag ∧
      settingValue? ⟨2, [1]⟩ = some (.u8 1) ∧ d.legal (.u8 1) = true ∧
      settingValue? ⟨2, [8]⟩ = some (.u8 8) ∧ d.legal (.u8 8) = true) ∧
    (∃ d, settingDef? (.enc .wave) 0 = some d ∧ (6 : Word).toNat = d.default.tag ∧
      settingValue? ⟨6, [0xFFFFFFFF]⟩ = some (.u32 0xFFFFFFFF) ∧ d.legal (.u32 0xFFFFFFFF) = true) ∧
    (((unitAt (.dec .ook) .config false []).plug (.dec .ook)).setting? 7).isSome = true :=
  ⟨⟨_, rfl, by decide, by decide, by decide, by decide, by decide⟩, ⟨_, rfl, by decide, by decide, by decide⟩, by decide⟩

/-- One past each legal range, a wrong tag, an identifier the unit has not. -/
theorem test_hyp_SetSettingRefusesBadOperands :
    settingDef? (.dec .ook) (11 : BitVec 16).toNat = none ∧ settingDef? (.dec .raw) (0 : BitVec 16).toNat = none ∧
    (∃ d, settingDef? (.dec .ook) (7 : BitVec 16).toNat = some d ∧ (6 : Word).toNat ≠ d.default.tag ∧
      (2 : Word).toNat = d.default.tag ∧ settingValue? ⟨2, [9]⟩ = some (.u8 9) ∧ d.legal (.u8 9) = false ∧
      settingValue? ⟨2, [0]⟩ = some (.u8 0) ∧ d.legal (.u8 0) = false ∧ settingValue? ⟨2, [0x109]⟩ = none) :=
  ⟨by decide, by decide, _, rfl, by decide, by decide, by decide, by decide, by decide, by decide, by decide⟩

/-- The shortest viable symbol, one sample, and the longest, 2^31 - 1 samples. -/
theorem test_hyp_viable :
    (plugAt (.dec .ook) .config false [(0, .u32 1000)]).viable ∧
    (plugAt (.dec .ook) .config false [(0, .u32 4294967295), (1, .u32 500000)]).viable ∧
    (plugAt (.dec .ook) .config false []).txnError = false ∧ (plugAt (.dec .ook) .config false []).num 9 ≠ 1 ∧
    (plugAt (.dec .morse) .config false []).viable ∧ (plugAt (.dec .pwm) .config false []).viable := by
  refine ⟨⟨?_, ?_⟩, ⟨?_, ?_⟩, ?_, ?_, ⟨?_, ?_⟩, ⟨?_, ?_⟩⟩ <;> decide +kernel

/-- A guard of 2^32 - 1 symbols of 100 samples still fits the limit of 2^62. -/
theorem test_hyp_EndSettingsConfiguresBitStreamEncoders :
    let p := plugAt (.enc .ook) .config false [(28, .u32 4294967295), (27, .string [0xA5])]
    p.viable ∧ p.txnError = false ∧ (∀ g ∈ segsOok (p.str 27) (p.num 28) (p.num 29), g.d * (p.num 0 * p.num 1) < 2 ^ 62) ∧
    (plugAt (.enc .pwm) .config false []).viable ∧ (plugAt (.enc .morse) .config false []).viable := by
  refine ⟨⟨?_, ?_⟩, ?_, ?_, ⟨?_, ?_⟩, ⟨?_, ?_⟩⟩ <;> decide +kernel

theorem test_hyp_EndSettingsConfiguresWaveAndPlayback :
    (let p := plugAt (.enc .wave) .config false []
     p.txnError = false ∧ p.num 16 ≠ 5) ∧
    (let p := plugAt (.enc .wave) .config false [(16, .enum 5)]
     p.txnError = false ∧ p.num 16 = 5 ∧ p.num 23 ≠ 1) ∧
    (let p := plugAt (.enc .wave) .config false
       [(0, .u32 8000), (16, .enum 5), (21, .u32 3), (22, .u32 10), (23, .bool true)]
     p.txnError = false ∧ p.num 16 = 5 ∧ p.num 23 = 1 ∧
       ((List.range (p.num 21)).map (fun i => bestLen (p.num 22)
         (BitVec.ofNat 32 (sweepFreq (p.num 19) (p.num 20) (p.num 21) i * 2 ^ 32 / p.num 0)).toNat)).sum = 26) ∧
    (let u := { EncWav.reset with plug := plugAt (.enc .wav) .config false [], pbFormat := 1, pbChannels := 1, pbBits := 16, pbBytes := 6 }
     u.plug.txnError = false ∧ u.pbFormat = 1 ∧ u.pbChannels = 1 ∧ u.pbBits = 16 ∧ u.pbBytes.toNat % 2 = 0) ∧
    bestLen 1 5 = 1 := by decide +kernel

/-- Just below one sample a symbol, just above 2^31 - 1, resynchronisation, an odd 16-bit length. -/
theorem test_hyp_EndSettingsRejectsBadConfigurations :
    (let p := plugAt (.dec .ook) .config false [(0, .u32 1000), (1, .u32 999)]
     p.txnError = false ∧ p.num 0 * p.num 1 < 1000000) ∧
    (let p := plugAt (.enc .pwm) .config false [(0, .u32 4294967295), (1, .u32 500001)]
     p.txnError = false ∧ 2147483647 < p.num 0 * p.num 1 / 1000000) ∧
    (let p := plugAt (.dec .ook) .config false [(9, .bool true)]
     p.txnError = false ∧ 1000000 ≤ p.num 0 * p.num 1 ∧ p.num 0 * p.num 1 / 1000000 ≤ 2147483647 ∧ p.num 9 = 1) ∧
    (let u := { EncWav.reset with pbFormat := 1, pbChannels := 1, pbBits := 16, pbBytes := 7 }
     u.pbBits = 16 ∧ u.pbBytes.toNat % 2 = 1) ∧
    ({ plugAt (.enc .wav) .config false [] with txnError := true }).txnError = true := by decide +kernel

/-- A sweep of one iteration of nominally 2,097,152 samples or more does not fit the tables. -/
theorem one_iteration_too_long (p : Plug) (h21 : p.num 21 = 1) (h22 : 2097152 ≤ p.num 22) :
    1048576 < ((List.range (p.num 21)).map (fun i => bestLen (p.num 22)
      (BitVec.ofNat 32 (sweepFreq (p.num 19) (p.num 20) (p.num 21) i * 2 ^ 32 / p.num 0)).toNat)).sum := by
  rw [h21]
  have h := half_lt_bestLen (p.num 22) (BitVec.ofNat 32 (sweepFreq (p.num 19) (p.num 20) 1 0 * 2 ^ 32 / p.num 0)).toNat
  simp only [List.range_one, List.map_cons, List.map_nil, List.sum_cons, List.sum_nil]
  omega

/-- One sweep iteration of nominally 2^32 - 1 samples does not fit the tables; a guard and a gap of 2^32 - 1 of the longest
symbols are segments past 2^62. -/
theorem test_hyp_EndSettingsRejectsBadConfigurations_long :
    (let p := plugAt (.enc .wave) .config false [(16, .enum 5), (21, .u32 1), (22, .u32 4294967295), (23, .bool true)]
     p.txnError = false ∧ p.num 16 = 5 ∧ p.num 23 = 1 ∧
       1048576 < ((List.range (p.num 21)).map (fun i => bestLen (p.num 22)
         (BitVec.ofNat 32 (sweepFreq (p.num 19) (p.num 20) (p.num 21) i * 2 ^ 32 / p.num 0)).toNat)).sum) ∧
    (let p := plugAt (.enc .ook) .config false [(0, .u32 4294967295), (1, .u32 500000), (28, .u32 4294967295)]
     p.txnError = false ∧ p.viable ∧
       ∃ g ∈ segsOok (p.str 27) (p.num 28) (p.num 29), 2 ^ 62 ≤ g.d * (p.num 0 * p.num 1)) ∧
    (let p := plugAt (.enc .pwm) .config false
       [(0, .u32 4294967295), (1, .u32 500000), (27, .string [1]), (30, .u32 4294967295)]
     p.txnError = false ∧ p.viable ∧ ∃ g ∈ segsPwm (p.str 27) (p.num 30), 2 ^ 62 ≤ g.d * (p.num 0 * p.num 1)) := by
  refine ⟨?_, ⟨by decide, ⟨by decide +kernel, by decide +kernel⟩, ⟨false, 4294967295⟩, by decide +kernel, by decide +kernel⟩,
    ⟨by decide, ⟨by decide +kernel, by decide +kernel⟩, ⟨false, 4294967295⟩, by decide +kernel, by decide +kernel⟩⟩
  exact ⟨by decide, by decide +kernel, by decide +kernel, one_iteration_too_long _ (by decide +kernel) (by decide +kernel)⟩

/-- The decoder of an `INITIALIZE` that succeeds, at the smallest chunk size. -/
theorem test_hyp_InitializeStartsADecoder :
    ∀ d : DecUnit, Admits (unitAt (.dec d) .idle true []) (.dec d) .idle ∧
      ((unitAt (.dec d) .idle true []).plug (.dec d)).ready = true ∧ (1 : BitVec 16) ≠ 0 := by
  intro d; cases d <;> exact ⟨⟨rfl, rfl, rfl⟩, rfl, by decide⟩

/-- A decoder with a filter, ACTIVE and free; its chunk size met, and missed by one on either side. -/
theorem test_hyp_ParseConsumesAChunk :
    Admits (decReady .ook 2 []) (.dec .ook) .active ∧ Admits (decReady .pwm 2 []) (.dec .pwm) .active ∧
    Admits (decReady .morse 2 []) (.dec .morse) .active ∧ Admits (decReady .raw 2 []) (.dec .raw) .active ∧
    (decReady .ook 2 []).decCore .ook = some (decReady .ook 2 []).decOok.core ∧
    [(512 : Sample), 712].length = (decReady .ook 2 []).decOok.core.flt.n.toNat :=
  ⟨⟨rfl, rfl, rfl⟩, ⟨rfl, rfl, rfl⟩, ⟨rfl, rfl, rfl⟩, ⟨rfl, rfl, rfl⟩, rfl, rfl⟩

theorem test_hyp_WrongChunkLengthHalts :
    (withFlt (fltNew 4 [0x3F800000] [0x3F800000])).halted = false ∧
    (withFlt (fltNew 4 [0x3F800000] [0x3F800000])).flt.allocated = true ∧
    [(1 : Sample), 2, 3].length ≠ (withFlt (fltNew 4 [0x3F800000] [0x3F800000])).flt.n.toNat ∧
    [(1 : Sample), 2, 3].length ≠ (decReady .ook 2 []).decOok.core.flt.n.toNat ∧
    [(1 : Sample)].length ≠ (decReady .ook 2 []).decOok.core.flt.n.toNat := by decide +kernel

/-- SEARCH at 100 samples a symbol, and DATA with the cursor on the first sample, at one sample a symbol. -/
theorem test_hyp_OokDecodingIsChunkIndependent :
    OokRegs.Consistent { OokRegs.reset with n75 := 75, run := 74 } 100000000 ∧
    OokRegs.Consistent { OokRegs.reset with n75 := 1, phase := .data } 1000000 :=
  ⟨⟨by decide, by decide, by decide, fun h => by cases h⟩, ⟨by decide, by decide, by decide, fun _ => by decide⟩⟩

/-- The stream of R187 in one chunk: the start after one quiet sample, or ended by a run of an earlier chunk (75 of which the
last here); a frame of 4 bits whose last instant is the last sample but one, and one of 8. -/
theorem test_hyp_OokDecodingIsChunkIndependent_frame :
    let r : OokRegs := { OokRegs.reset with n75 := 1, bpd := 4, dpf := 1 }
    let ys : List REAL := [0, 0x43480000, 0x43480000, 0x43480000, 0x43480000, 0, 0, 0x43480000, 0x43480000, 0, 0, 0]
    let q : OokRegs := { OokRegs.reset with n75 := 75, bpd := 8, dpf := 1, run := 74 }
    (r.phase = .search ∧ r.dpf ≠ 0 ∧ [(0x43480000 : REAL)].length = r.n75.toNat ∧ Machine.Num.gt 0x43480000 0x42C80000 = true ∧
      Machine.Num.gt 0 0x42C80000 = false ∧ ((1 * 1000000 + 3000000 + 3 * 2000000) / 1000000 : Int).toNat < ys.length) ∧
    OokRegs.parse 0x42C80000 2000000 ys 42 0 r [] =
      ({ r with posMag := 12000000, datacnt := 1 }, [0x0A]) ∧
    (q.run.toNat + [(0x43480000 : REAL)].length = q.n75.toNat ∧ q.bpd = 8 ∧ q.dpf ≠ 0) ∧
    (q.run.toNat + ([] : List REAL).length < q.n75.toNat ∧ { q with phase := OokPhase.waitIdle }.phase = .waitIdle) := by
  decide +kernel

theorem test_hyp_OokDecodingIsChunkIndependent_consistent :
    OokRegs.Consistent { OokRegs.reset with n75 := 1, bpd := 4, dpf := 1 } 2000000 ∧
    OokRegs.Consistent { OokRegs.reset with n75 := 75, bpd := 8, dpf := 1, run := 74, phase := .waitIdle } 100000000 :=
  ⟨⟨by decide, by decide, by decide, fun h => by cases h⟩, ⟨by decide, by decide, by decide, fun h => by cases h⟩⟩

/-- 33 samples of carrier at one sample a unit; 0 samples are none. -/
theorem test_hyp_PwmDecodesAPulse :
    let r : PwmRegs := { PwmRegs.reset with confirm := 1 }
    let on : List REAL := List.replicate 33 0x43480000
    let off : List REAL := List.replicate 1 0
    r.w = 0 ∧ 0 < r.confirm.toNat ∧ (∀ y ∈ on, Machine.Num.gt y 0x42C80000 = true) ∧
    (∀ y ∈ off, Machine.Num.gt y 0x42C80000 = false) ∧ 0 < on.length ∧ on.length < 2 ^ 64 ∧ off.length = r.confirm.toNat := by
  refine ⟨by decide, by decide, fun y h => ?_, fun y h => ?_, by decide, by decide, by decide⟩
  · rw [List.eq_of_mem_replicate h]; decide
  · rw [List.eq_of_mem_replicate h]; decide

/-- A dash, a dot and noise at their boundaries; a sixth and a seventh element; the gap that ends a character in the table,
one that is not, and an overflow; silence with nothing pending. -/
theorem test_hyp_PwmDecodesAPulse_morse :
    let r : MorseRegs := { MorseRegs.reset with tDot := 2, tDash := 3, tChar := 2, tWord := 5, wo := 5, hadChar := true }
    let q : MorseRegs := { r with wo := 1, codeLen := 4, codeBits := 0b0001010 }
    (r.w = 0 ∧ 1 < r.tChar.toNat ∧ Machine.Num.gt 0x43480000 0x42C80000 = true ∧ Machine.Num.gt 0 0x42C80000 = false ∧
      r.tWord.toNat ≤ r.wo.toNat ∧ (List.replicate 3 (0x43480000 : REAL)).length = r.tDash.toNat ∧
      (List.replicate 2 (0x43480000 : REAL)).length = r.tDot.toNat ∧
      (List.replicate 1 (0x43480000 : REAL)).length < r.tDot.toNat ∧ r.codeLen < 6 ∧
      6 ≤ ({ r with codeLen := 6 }).codeLen) ∧
    (q.w = 0 ∧ 0 < q.codeLen ∧ q.wo.toNat < q.tChar.toNat ∧ [(0 : REAL)].length = q.tChar.toNat - q.wo.toNat ∧
      (∀ row ∈ morseTable, row.code ≠ codeElements q.codeLen q.codeBits) ∧ ({ q with codeLen := 7 }).codeLen = 7 ∧
      ∃ row ∈ morseTable, row.code = codeElements 1 0) ∧
    r.codeLen = 0 ∧ r.wo.toNat + [(0 : REAL)].length < 2 ^ 64 := by decide +kernel

theorem test_hyp_TerminateEndsADecoderSession :
    (decReady .morse 2 []).decFlt .morse = some (decReady .morse 2 []).decMorse.core.flt := rfl

/-- A busy decoder with a byte to read. -/
theorem test_hyp_ReadDecodedTakesBytesInOrder :
    rxWaiting.halted = false ∧ (rxWaiting.plug (.dec .ook)).lc ≠ .absent ∧ rxWaiting.busy (.dec .ook) = true := by
  decide +kernel

theorem test_hyp_CaptureReadsGiveTheFirstValues :
    rxWaiting.halted = false ∧ rxWaiting.decOok.core.plug.lc = .active ∧ rxWaiting.decOok.core.flt.allocated = true ∧
    (decReady .pwm 2 []).decPwm.core.plug.lc = .active ∧ (decReady .pwm 2 []).decPwm.core.flt.allocated = true ∧
    (decReady .morse 2 []).decMorse.core.plug.lc = .active ∧ (decReady .morse 2 []).decMorse.core.flt.allocated = true ∧
    (withFlt { fltNew 2 [0x3F800000] [0x3F800000] with capLen := 1, cap := [(0, 7)] }).flt.allocated = true ∧
    Memory.read [(0, (7 : REAL))] 0 = some 7 := by decide +kernel

theorem test_hyp_ResetRestartsGeneration :
    ∀ e : EncUnit, Admits (unitAt (.enc e) .idle true []) (.enc e) .idle ∧
      ((unitAt (.enc e) .idle true []).plug (.enc e)).ready = true := by
  intro e; cases e <;> exact ⟨⟨rfl, rfl, rfl⟩, rfl⟩

/-- Each wave shape, at the last phase of the first half and the first of the second. -/
theorem test_hyp_WaveShapesFollowTheirFormulas :
    (∀ k ∈ [0, 1, 2, 3, 4], ({ EncWave.reset with stype := k, phase := 0x7FFFFFFF }).stype = k) ∧
    (0x7FFFFFFF : BitVec 32).toNat < 2 ^ 31 ∧ ¬ (0x80000000 : BitVec 32).toNat < 2 ^ 31 := by decide

/-- The last sample but one and the last of an iteration, from the tables and computed. -/
theorem test_hyp_WaveShapesFollowTheirFormulas_sweep :
    let u := { EncWave.reset with stype := 5, k := 2, swFw := [0x20000000, 0x40000000], swLen := [8, 10], sweepIter := 1,
                                  swLut := [[512], List.replicate 10 700], sweepN := 8 }
    let v := { u with plug := plugAt (.enc .wave) .active true [(23, .bool true)], sweepN := 9 }
    u.stype = 5 ∧ u.plug.num 23 ≠ 1 ∧ u.swFw[u.sweepIter.toNat]? = some 0x40000000 ∧
    u.swLen[u.sweepIter.toNat]? = some 10 ∧ u.sweepN + 1 ≠ 10 ∧ v.stype = 5 ∧ v.plug.num 23 = 1 ∧ v.sweepN + 1 = 10 ∧
    v.swLut[v.sweepIter.toNat]? = some (List.replicate 10 700) ∧
    (List.replicate 10 (700 : Sample))[v.sweepN.toNat]? = some 700 := by decide +kernel

/-- Two segments of 2 and 1 symbols at 2.5 samples: sample 4 is the last of the first, 5 the first of the second,
8 the first after them. -/
theorem test_hyp_SegmentsKeepExactTime :
    let u := { EncSeq.reset .ook with spsNum := 2500000, segs := [⟨false, 2⟩, ⟨true, 1⟩] }
    let start (j : Nat) : Nat := segmentStart u.segs u.spsNum.toNat j
    u.segIdx = 0 ∧ u.acc = 0 ∧ u.done = false ∧ u.phase = 0 ∧ u.segs.length < 2 ^ 32 ∧
    u.segs[0]? = some ⟨false, 2⟩ ∧ start 0 ≤ 4 * 1000000 ∧ 4 * 1000000 < start 1 ∧
    u.segs[1]? = some ⟨true, 1⟩ ∧ start 1 ≤ 5 * 1000000 ∧ 5 * 1000000 < start 2 ∧ start u.segs.length ≤ 8 * 1000000 := by
  decide +kernel

/-- The last sample of an 8-bit and of a 16-bit sound, and the first after it. -/
theorem test_hyp_PlaybackRescalesTheSound :
    let u := { EncWav.reset with pbBits := 8, pbCount := 2 }
    let v := { EncWav.reset with pbBits := 16, pbCount := 1 }
    let pbm : List Host.Cell := [(0, 0x12), (1, 0x80)]
    u.pbIdx = 0 ∧ u.pbDone = false ∧ u.rep = false ∧ u.pbBits = 8 ∧ 1 < u.pbCount.toNat ∧
    Memory.read pbm 1 = some 0x80 ∧ u.pbCount.toNat ≤ 2 ∧
    ({ u with rep := true }).rep = true ∧ 3 % u.pbCount.toNat = 1 ∧ ({ u with pbCount := 0 }).pbCount.toNat = 0 ∧
    v.pbBits = 16 ∧ 0 < v.pbCount.toNat ∧ Memory.read pbm (2 * 0) = some 0x12 ∧
    Memory.read pbm (2 * 0 + 1) = some 0x80 := by decide +kernel

theorem test_hyp_PbLoadStoresTheSound :
    Admits (unitAt (.enc .wav) .idle true []) (.enc .wav) .idle ∧ Admits (unitAt (.enc .wav) .config true []) (.enc .wav) .config ∧
    [(1 : Byte), 2].length ≤ 1048576 :=
  ⟨⟨rfl, rfl, rfl⟩, ⟨rfl, rfl, rfl⟩, by decide⟩

/-- F5: order 1 at chunk size 1, and order 2. -/
theorem test_hyp_FltCreateMakesAFilter :
    let a : List Real32 := [0x3F800000, 0xBF000000]
    let a' : List Real32 := [0x3F800000, 0, 0]
    let b : List Real32 := [0x3F800000]
    State.reset.halted = false ∧ State.reset.flt.allocated = false ∧ (1 : BitVec 16) ≠ 0 ∧ a'.length ≤ 16 ∧ 1 ≤ b.length ∧
    (a.getD 0 0).toNat % 2 ^ 31 ≠ 0 ∧ max a.length b.length - 1 ≤ (1 : BitVec 16).toNat ∧
    (1 : BitVec 16).toNat < max a'.length b.length - 1 := by decide

theorem test_hyp_FltCommandsOnAnExistingFilter :
    let s := withFlt (fltNew 3 [0x3F800000] [0x3F800000])
    s.halted = false ∧ s.flt.allocated = true ∧ [(1 : Sample), 2, 3].length = s.flt.n.toNat ∧
    (65536 : Word).toNat ≤ 65536 ∧ (2 : BitVec 16).toNat = 2 ∧
    (withFlt { s.flt with valid := true }).flt.valid = true := by decide +kernel

theorem test_hyp_FilterEvaluatesTheDifferenceEquation :
    let f := fltNew 2 [0x3F800000, 0xBF400000] [0x3E800000]
    (∃ g, f.processChunk [16, 16] 0 = .ok g) ∧ f.p = max f.a.length f.b.length - 1 ∧ f.p ≤ f.n.toNat ∧
    f.xb.length = f.p + f.n.toNat ∧ f.yb.length = f.p + f.n.toNat ∧ f.capRem ≤ f.capLen :=
  ⟨exists_ok (by decide +kernel), by decide +kernel, by decide +kernel, by decide +kernel, by decide +kernel,
   by decide +kernel⟩

/-- L = 4 and M = 1, the order of the filter. -/
theorem test_hyp_FilteringIsChunkIndependent :
    let a : List REAL := [0x3F800000, 0xBF400000]
    let b : List REAL := [0x3E800000]
    let chunks : List (List Sample) := [[16], [16], [0], [0]]
    0 < (1 : BitVec 16).toNat ∧ (4 : BitVec 16).toNat = (1 : BitVec 16).toNat * chunks.length ∧
    filterOrder a b ≤ (1 : BitVec 16).toNat ∧ (∀ c ∈ chunks, c.length = (1 : BitVec 16).toNat) ∧
    (∃ f₁, fltCreate 4 a b = .ok f₁) ∧ (∃ f₂, fltCreate 1 a b = .ok f₂) ∧
    ∃ g₁, ((fltNew 4 a b).setDemod .abs 0).processChunk chunks.flatten 0 = .ok g₁ :=
  ⟨by decide, by decide, by decide, by decide, exists_ok (by decide +kernel), exists_ok (by decide +kernel),
   exists_ok (by decide +kernel)⟩

/-- A unit of each kind to bind, with another bound before; the numbers of the other kind and of no plugin unit. -/
theorem test_hyp_BindGivesASchedulerItsUnit :
    (10 : BitVec 16).toNat = (encNumber .ook).toNat ∧ (unitAt (.enc .ook) .idle false []).txs.state = .idle ∧
    ((unitAt (.enc .ook) .idle false []).plug (.enc .ook)).lc ≠ .absent ∧
    (4 : BitVec 16).toNat = (decNumber .raw).toNat ∧ ((unitAt (.dec .raw) .idle false []).plug (.dec .raw)).lc ≠ .absent ∧
    (4 : BitVec 16).toNat ∈ [1, 2, 3, 4] ∧ (8 : BitVec 16).toNat ∈ [8, 9, 10, 11, 12] ∧
    (0 : BitVec 16).toNat ∉ [1, 2, 3, 4, 8, 9, 10, 11, 12] ∧ (13 : BitVec 16).toNat ∉ [1, 2, 3, 4, 8, 9, 10, 11, 12] := by
  decide

/-- A TX and an RX session about to start, with the shortest buffers. -/
theorem test_hyp_StartsOpenASession :
    (let s := { unitAt (.enc .ook) .idle true [] with txs := { Txs.reset with enc := some .ook } }
     s.halted = false ∧ s.txs.state = .idle ∧ (1 : BitVec 16) ≠ 0 ∧ s.txs.enc = some .ook ∧ s.busy (.enc .ook) = false ∧
       (s.plug (.enc .ook)).lc = .idle ∧ (s.plug (.enc .ook)).ready = true ∧ s.txBusy = false) ∧
    (let s := { unitAt (.dec .ook) .idle true [] with rxs := { Rxs.reset with dec := some .ook } }
     s.halted = false ∧ s.rxs.state = .idle ∧ s.rxs.dec = some .ook ∧ s.busy (.dec .ook) = false ∧
       (s.plug (.dec .ook)).lc = .idle ∧ (s.plug (.dec .ook)).ready = true ∧ s.rxBusy = false) := by decide

theorem test_hyp_StopsRequestAndWait :
    State.reset.txs.state = .idle ∧ txWaiting.txs.state ≠ .idle ∧ State.reset.rxs.state = .idle ∧
    rxWaiting.rxs.state ≠ .idle ∧ txWaiting.halted = false ∧ rxWaiting.halted = false := by decide +kernel

theorem test_hyp_RxCheckPollsTheStopFlag :
    (let s := { rxWaiting with rxs := { rxWaiting.rxs with state := .armed, stopReq := true } }
     s.halted = false ∧ s.rxs.state = .armed) ∧
    (let s := { rxWaiting with rxs := { rxWaiting.rxs with phase := .check } }
     s.halted = false ∧ s.rxs.state = .running ∧ s.rxs.phase = .check) ∧
    captureTimeoutEnabled rxWaiting = true ∧ rxWaiting.rxs.phase ≠ .check ∧
    after (rxsStep rxWaiting) (fun t => t.rxs.state) = some .running := by decide +kernel

theorem test_hyp_TxHandsABufferOver :
    txHanding.halted = false ∧ txHanding.txs.state = .running ∧ txHanding.txs.phase = .hand ∧
    txHanding.txs.enc = some .ook ∧ txHanding.txs.fillIdx < txHanding.txPool.length ∧
    (txHanding.plug (.enc .ook)).num 0 ≠ 0 ∧ (txHanding.plug (.enc .ook)).num 0 < 2 ^ 32 ∧
    txHanding.txs.dueNs.toNat +
      (txHanding.txs.dueRem.toNat + txHanding.txs.n.toNat * 1000000000) / (txHanding.plug (.enc .ook)).num 0 < 2 ^ 64 ∧
    ((encReady .wav []).plug (.enc .wav)).num 0 = 0 := by decide +kernel

/-- FILL of a buffer that is not filled, and the first step of PRELOADING. -/
theorem test_hyp_TxFillsABuffer :
    let s := { txWaiting with txs := { txWaiting.txs with phase := .fill }, txFilled := [true, false] }
    let p := { txHanding with txs := { txHanding.txs with state := .preloading, phase := .check }, txFilled := [false, false] }
    s.halted = false ∧ s.txs.enc = some .ook ∧ s.txPool[s.txs.fillIdx]? = some ⟨.sched, [(0, 512)]⟩ ∧
    s.txFilled.getD s.txs.fillIdx false = false ∧ s.txs.fillIdx < s.txFilled.length ∧ s.txs.state = .running ∧
    s.txs.phase = .fill ∧ p.txPool[p.txs.fillIdx]? = some ⟨.sched, [(0, 512), (1, 712)]⟩ ∧
    p.txFilled.getD p.txs.fillIdx false = false ∧ p.txs.state = .preloading ∧ p.txs.stopReq = false := by decide +kernel

theorem test_hyp_TxConsumesASentBuffer :
    let s := { txWaiting with txQueue := [0x80000008] }
    s.halted = false ∧ s.txs.state = .running ∧ s.txs.phase = .wait ∧ s.txs.inflight = some 0 ∧ s.txQueue = 0x80000008 :: [] ∧
    (0x80000008 : Word).unit.toNat = 0 ∧ (0x80000008 : Word).arg = s.txs.n ∧ (0x80000007 : Word).arg ≠ s.txs.n ∧
    (0x80010008 : Word).unit.toNat ≠ 0 ∧
    (let p := { s with txs := { s.txs with state := .stopping } }
     p.halted = false ∧ p.txs.state = .stopping ∧ p.txs.inflight = some 0 ∧ p.txQueue = 0x80000008 :: []) := by decide +kernel

/-- The plain steps: PRELOADING filled, ARMED, CHECK, FILL of a filled buffer, PACE, WAIT with nothing in flight; WAIT and
STOPPING with no event. -/
theorem test_hyp_TxConsumesASentBuffer_plain :
    let at_ (st : TxState) (ph : TxPhase) : State := { txHanding with txs := { txHanding.txs with state := st, phase := ph } }
    (at_ .preloading .check).txs.stopReq = false ∧ (at_ .preloading .check).txs.state = .preloading ∧
    (at_ .preloading .check).txFilled.getD (at_ .preloading .check).txs.fillIdx false = true ∧
    (at_ .armed .check).txs.state = .armed ∧ (at_ .armed .check).halted = false ∧
    (∀ ph ∈ [TxPhase.check, .fill, .pace, .wait], (at_ .running ph).txs.state = .running ∧ (at_ .running ph).txs.phase = ph ∧
      (at_ .running ph).txs.inflight = none) ∧
    txWaiting.txs.inflight ≠ none ∧ txWaiting.txQueue = [] ∧ txWaiting.txs.phase = .wait := by decide +kernel

theorem test_hyp_RxCapturesAndDispatches :
    (let s := { rxWaiting with rxs := { rxWaiting.rxs with phase := .trigger, armedBuf := none } }
     s.halted = false ∧ s.rxs.state = .running ∧ s.rxs.phase = .trigger) ∧
    rxWaiting.rxs.phase = .wait ∧ rxWaiting.rxs.armedBuf = some 0 ∧ rxWaiting.rxQueue = [] ∧
    (0x81000005 : Word).unit.toNat = 0 ∧ (0x81000005 : Word).arg = rxWaiting.rxs.n ∧
    (0x81000004 : Word).arg ≠ rxWaiting.rxs.n ∧ (0x81010005 : Word).unit.toNat ≠ 0 := by decide +kernel

theorem test_hyp_RxCapturesAndDispatches_dispatch :
    let chunk : List Sample := [712, 712, 712, 712, 712]
    let b : PoolBuf := ⟨.sched, [(0, 712), (1, 712), (2, 712), (3, 712), (4, 712)]⟩
    (rxDispatching.halted = false ∧ rxDispatching.rxs.state = .running ∧ rxDispatching.rxs.phase = .dispatch ∧
      rxDispatching.rxs.dec = some .ook ∧ rxDispatching.rxPool[rxDispatching.rxs.rdIdx]? = some b ∧
      chunk.length = rxDispatching.rxs.n.toNat ∧ rxDispatching.rxs.n.toNat = 5 ∧
      ∀ i < 5, Memory.read b.samples i = chunk[i]?) ∧
    ∃ r, decParse .ook chunk rxDispatching = .ok r :=
  ⟨by decide +kernel, exists_ok (by decide +kernel)⟩

theorem test_hyp_StopsEndBoundedly :
    (let s := { txHanding with txs := { txHanding.txs with state := .preloading, stopReq := true } }
     s.halted = false ∧ s.txs.stopReq = true ∧ s.txs.inflight = none ∧ s.txs.state = .preloading) ∧
    (let s := { txWaiting with stopWait := some .tx }
     s.halted = false ∧ s.stopWait = some .tx ∧ s.txs.state ≠ .idle) ∧
    (let s := { rxWaiting with stopWait := some .rx }
     s.stopWait = some .rx ∧ s.rxs.state ≠ .idle ∧ s.rxs.dec = some .ook) ∧
    (let s := { rxWaiting with rxs := { rxWaiting.rxs with state := .stopping } }
     s.halted = false ∧ s.rxs.state = .stopping ∧ s.rxs.dec = some .ook ∧ s.rxs.armedBuf = some 0) ∧
    (let s := { State.reset with stopWait := some .tx }
     s.txs.state = .idle ∧ s.txs.forced = false) ∧
    (let s := { State.reset with stopWait := some .rx }
     s.rxs.state = .idle ∧ s.rxs.forced = false) := by decide +kernel

/-- The last sample of the session's length, and the first past it; a buffer lent, one reported, one never lent. -/
theorem test_hyp_TransportMayTouchOnlyItsBuffer :
    (txWaiting.halted = false ∧ txWaiting.txPool[0]? = some ⟨.transport, [(0, 512), (1, 712)]⟩ ∧ txWaiting.txLent 0 = true ∧
      txWaiting.txs.n.toNat ≤ 8 ∧ 1 < txWaiting.txs.n.toNat ∧ Memory.read [(0, (512 : Sample)), (1, 712)] 1 = some 712 ∧
      txWaiting.txPool[1]? = some ⟨.sched, [(0, 512)]⟩ ∧ ({ txWaiting with txHas := none }).txLent 0 = false ∧ txWaiting.txPool.length ≤ 2) ∧
    (rxWaiting.halted = false ∧ (rxWaiting.rxPool[0]?).map (·.owner) = some .transport ∧ rxWaiting.rxLent 0 = true ∧
      rxWaiting.rxs.n.toNat ≤ 5 ∧ 4 < rxWaiting.rxs.n.toNat ∧ rxWaiting.rxPool[1]? = some ⟨.sched, []⟩ ∧
      Memory.read [(3, (712 : Sample)), (4, 712)] 4 = some 712 ∧
      ({ rxWaiting with rxHas := none }).rxLent 0 = false ∧ rxWaiting.rxPool.length ≤ 2) := by
  decide +kernel

/-- The example of R149: a fresh unit in IDLE whose configuration error has message 2. -/
theorem test_hyp_GetStatusShowsTheUnit :
    let s := State.reset.setPlug (.dec .ook) { plugAt (.dec .ook) .idle false [] with errStatus := 7, errMsg := 2 }
    s.halted = false ∧ (s.plug (.dec .ook)).lc = .idle ∧ (s.plug (.dec .ook)).ready = false ∧
    (s.plug (.dec .ook)).txnError = false ∧ (s.plug (.dec .ook)).bound = .unbound ∧
    (s.plug (.dec .ook)).errStatus = 7 ∧ (s.plug (.dec .ook)).errMsg = 2 := by decide

end Sys2Proof.Tests
end

section
/-! What a step does with the move at the head of the agenda, and the command on HOST's turn: the rules the statements
about single steps use. -/

namespace Sys2Proof.Machine

/-- The move at the head of the agenda decides the step; its end takes it off the agenda and counts the step (R12). -/
theorem step_of_agenda {s : State} {m : Move} {moves : List Move} (h : s.agenda = m :: moves) :
    step s =
      match moveStep m s with
      | .next t => .next { t with agenda := moves, tick := s.tick + 1 }
      | .fault r => .fault r
      | .refused r => .refused r := by
  have hm : nextMove s = m := by simp [nextMove, h]
  rw [step, hm]
  cases moveStep m s with
  | next t => simp [endMove, h]
  | fault r => rfl
  | refused r => rfl

/-- With no stop withheld, HOST's turn runs the transaction waiting on the command port without its words (R90). -/
theorem hostStep_of_decode {s : State} {i : Instr} {rest : List Word} (hstop : s.stopWait = none)
    (hdec : decode s.cmdIn = .instr i rest) : hostStep s = exec i { s with cmdIn := rest } := by
  simp [hostStep, hstop, hdec]

/-- Settles O5: the rule for the head of the agenda, then the rule for HOST's turn. -/
theorem stepRunsTheDecodedCommand : Obligations.StepRunsTheDecodedCommand := by
  intro s i rest moves hagenda hstop hdec _
  rw [← hostStep_of_decode hstop hdec]
  exact step_of_agenda hagenda

end Sys2Proof.Machine
end

section
/-! The wave encoder sample by sample: one equation per shape of 43_encoders.md R214, and the two values and the move of a
sweep (R216). -/

namespace Sys2Proof.Machine

/-- PLCPHY's clamp to 0..TX_MAX as one minimum over the naturals (R15). -/
theorem Num.clampTX_plcphy (v : Int) : Num.clampTX v = BitVec.ofNat 16 (min v.toNat 1023) := by
  rw [Num.clampTX, Params.plcphy_txMax]
  congr 1
  split_ifs <;> omega

theorem toneSample_plcphy (offset : Nat) (amp : BitVec 16) (c : REAL) :
    toneSample offset amp c =
      BitVec.ofNat 16 (min ((offset : Int) + Num.rnd (Num.mul (Num.ofInt amp.toNat) c)).toNat 1023) :=
  Num.clampTX_plcphy _

namespace EncWave

/-- The encoder one step of `efw` further in phase, every other register kept. -/
def advance (u : EncWave) : EncWave := { u with phase := u.phase + u.efw }

theorem sample_constant {u : EncWave} (h : u.stype = 0) :
    u.sample = (Num.clampTX (u.plug.num idOffset), u.advance) := by
  simp [sample, h, advance]

theorem sample_ramp {u : EncWave} (h : u.stype = 1) :
    u.sample = (Num.clampTX (u.lo + (u.phase.toNat * u.rng.toNat / 2 ^ 32 : Nat)), u.advance) := by
  simp [sample, h, advance]

/-- Up in the first half of the cycle and down in the second, as one formula. -/
theorem sample_triangular {u : EncWave} (h : u.stype = 2) :
    u.sample =
      (Num.clampTX (u.lo + ((if u.phase.toNat < 2 ^ 31 then u.phase.toNat else 2 ^ 32 - u.phase.toNat) * u.rng.toNat
        / 2 ^ 31 : Nat)), u.advance) := by
  by_cases hp : u.phase.toNat < 2 ^ 31 <;> simp only [sample, h, hp, if_true, if_false, advance]

theorem sample_square {u : EncWave} (h : u.stype = 3) :
    u.sample =
      (Num.clampTX (if u.phase.toNat < 2 ^ 31 then u.lo + (u.rng.toNat : Int) else u.lo), u.advance) := by
  by_cases hp : u.phase.toNat < 2 ^ 31 <;> simp only [sample, h, hp, if_true, if_false, advance]

theorem sample_sine {u : EncWave} (h : u.stype = 4) :
    u.sample = (toneSample (u.plug.num idOffset) u.amp (Num.sinw u.phase), u.advance) := by
  simp [sample, h, advance]

theorem sample_sweep {u : EncWave} (h : u.stype = 5) :
    u.sample = (u.sweepSample.1, { u.sweepSample.2 with phase := u.phase + u.efw }) := by
  simp [sample, h]

/-- The registers of a sweep after one sample, in an iteration of `len` samples: the next sample, or the start of the next
iteration (R216). -/
theorem sweepSample_snd {u : EncWave} {len : BitVec 32} (hlen : u.swLen[u.sweepIter.toNat]? = some len) :
    u.sweepSample.2 =
      { u with
        sweepN := if u.sweepN + 1 = len then 0 else u.sweepN + 1,
        sweepIter := if u.sweepN + 1 = len then BitVec.ofNat 32 ((u.sweepIter.toNat + 1) % u.k.toNat)
          else u.sweepIter } := by
  by_cases hend : u.sweepN + 1 = len <;>
    simp only [sweepSample, List.getD_eq_getElem?_getD, hlen, Option.getD_some, hend, if_true, if_false]

/-- What a sweep plays, whether or not its iteration ends with this sample. -/
theorem sweepSample_fst (u : EncWave) :
    u.sweepSample.1 =
      if u.plug.num idSweepPrecomputed = 1 then (u.swLut.getD u.sweepIter.toNat []).getD u.sweepN.toNat 0
      else u.tone (u.swFw.getD u.sweepIter.toNat 0) u.sweepN.toNat := by
  simp only [sweepSample, apply_ite Prod.fst, ite_self]

/-- A sweep that is not precomputed plays the tone of its frequency word. -/
theorem sweepSample_fst_tone {u : EncWave} {fw : BitVec 32} (hpre : u.plug.num idSweepPrecomputed ≠ 1)
    (hfw : u.swFw[u.sweepIter.toNat]? = some fw) : u.sweepSample.1 = u.tone fw u.sweepN.toNat := by
  simp [sweepSample_fst, hpre, hfw]

/-- A precomputed sweep plays its entry of the lookup memory. -/
theorem sweepSample_fst_lut {u : EncWave} {row : List Sample} {v : Sample} (hpre : u.plug.num idSweepPrecomputed = 1)
    (hrow : u.swLut[u.sweepIter.toNat]? = some row) (hv : row[u.sweepN.toNat]? = some v) : u.sweepSample.1 = v := by
  simp [sweepSample_fst, hpre, hrow, hv]

end EncWave

/-- The sine of amplitude 200 is exact at the quarter points, where R16 gives the cosine. -/
theorem rnd_mul_sinw_quarters :
    Num.rnd (Num.mul (Num.ofInt 200) (Num.sinw 0x00000000#32)) = 0 ∧
    Num.rnd (Num.mul (Num.ofInt 200) (Num.sinw 0x40000000#32)) = 200 ∧
    Num.rnd (Num.mul (Num.ofInt 200) (Num.sinw 0x80000000#32)) = 0 ∧
    Num.rnd (Num.mul (Num.ofInt 200) (Num.sinw 0xC0000000#32)) = -200 := by
  decide

/-- Settles O40, by the equation of each shape. -/
theorem waveShapesFollowTheirFormulas : Obligations.WaveShapesFollowTheirFormulas := by
  refine ⟨fun u => ⟨fun h => ?constant, fun h => ?ramp, fun h => ?triangular, fun h => ?square, fun h => ?sine,
    ?sweep⟩, rnd_mul_sinw_quarters⟩
  case constant => rw [EncWave.sample_constant h, Num.clampTX_plcphy]; rfl
  case ramp => rw [EncWave.sample_ramp h, Num.clampTX_plcphy]; rfl
  case triangular => rw [EncWave.sample_triangular h, Num.clampTX_plcphy]; rfl
  case square => rw [EncWave.sample_square h, Num.clampTX_plcphy]; rfl
  case sine => rw [EncWave.sample_sine h, toneSample_plcphy]; rfl
  case sweep =>
    intro h fw len i n hfw hlen moved
    rw [EncWave.sample_sweep h, EncWave.sweepSample_snd hlen]
    refine ⟨fun hpre => ?_, fun hpre row v hrow hv => ?_⟩
    · rw [EncWave.sweepSample_fst_tone hpre hfw, EncWave.tone, toneSample_plcphy]; rfl
    · rw [EncWave.sweepSample_fst_lut hpre hrow hv]

end Sys2Proof.Machine
end

section
/-! What an instruction runs (the dispatch read once), and what every step does with the move it takes. -/

namespace Sys2Proof.Machine

/-- The outcome of an instruction in state `s`, by the command or event that gives it its meaning: `exec` read once, so that
a proof about every instruction has one case for each meaning and not one for each row of the opcode table. -/
inductive Runs (s : State) : Host.Outcome State Fault Refusal → Prop where
  | create (u : PluginUnit) : Runs s (createCommand u s)
  | acceptedSettings (u : PluginUnit) : Runs s (acceptedSettingsCommand u s)
  | beginSettings (u : PluginUnit) : Runs s (beginSettingsCommand u s)
  | setSetting (u : PluginUnit) (id : BitVec 16) (v : SettingArg) : Runs s (setSettingCommand u id v s)
  | endSettings (u : PluginUnit) : Runs s (endSettingsCommand u s)
  | release (u : PluginUnit) : Runs s (releaseCommand u s)
  | getStatus (u : PluginUnit) : Runs s (getStatusCommand u s)
  | start (d : DecUnit) (n : BitVec 16) : Runs s (initializeCommand d n s)
  | parse (d : DecUnit) (raw : List Sample) : Runs s (parseCommand d raw s)
  | terminate (d : DecUnit) : Runs s (terminateCommand d s)
  | readDecoded (d : DecUnit) (m : BitVec 16) : Runs s (readDecodedCommand d m s)
  | readCapture (d : DecUnit) (m : BitVec 16) : Runs s (readCaptureCommand d m s)
  | reset (e : EncUnit) : Runs s (resetCommand e s)
  | prepare (e : EncUnit) (k : BitVec 16) : Runs s (prepareCommand e k s)
  | pbLoad (format channels bits : BitVec 16) (data : List Byte) : Runs s (execPbLoad format channels bits data s)
  | fltCreate (n : BitVec 16) (a b : List Real32) : Runs s (execFltCreate n a b s)
  | fltSetDemod (mode : BitVec 16) (fw : Word) : Runs s (execFltSetDemod mode fw s)
  | fltSetCapture (count : Word) : Runs s (execFltSetCapture count s)
  | fltProcessChunk (offset : Sample) (raw : List Sample) : Runs s (execFltProcessChunk offset raw s)
  | fltReadOutput : Runs s (execFltReadOutput s)
  | fltReadCapture (m : BitVec 16) : Runs s (execFltReadCapture m s)
  | fltRelease : Runs s (execFltRelease s)
  | txBind (unit : BitVec 16) : Runs s (execTxBind unit s)
  | txStart (n : BitVec 16) : Runs s (execTxStart n s)
  | txStop : Runs s (execTxStop s)
  | txStatus : Runs s (execTxStatus s)
  | rxBind (unit : BitVec 16) : Runs s (execRxBind unit s)
  | rxStart (n : BitVec 16) : Runs s (execRxStart n s)
  | rxStop : Runs s (execRxStop s)
  | rxStatus : Runs s (execRxStatus s)
  | sysStatus : Runs s (execSysStatus s)
  | evTxSent (buf : Byte) (count : BitVec 16) : Runs s (execEvTxSent buf count s)
  | evRxCaptured (buf : Byte) (count : BitVec 16) : Runs s (execEvRxCaptured buf count s)
  | reqTxSend (buf : Byte) (count : BitVec 16) : Runs s (execReqTxSend buf count s)
  | reqRxCapture (buf : Byte) (count : BitVec 16) : Runs s (execReqRxCapture buf count s)
  | reqRxAbort (buf : Byte) (count : BitVec 16) : Runs s (execReqRxAbort buf count s)

/-- Every instruction runs one of these meanings. -/
theorem exec_runs (i : Instr) (s : State) : Runs s (exec i s) := by
  cases i with
  | createDecOok | createDecPwm | createDecMorse | createDecRaw | createEncWave | createEncWav | createEncOok
  | createEncPwm | createEncMorse => exact .create _
  | getAcceptedSettingsDecOok | getAcceptedSettingsDecPwm | getAcceptedSettingsDecMorse
  | getAcceptedSettingsDecRaw | getAcceptedSettingsEncWave | getAcceptedSettingsEncWav
  | getAcceptedSettingsEncOok | getAcceptedSettingsEncPwm | getAcceptedSettingsEncMorse => exact .acceptedSettings _
  | beginSettingsDecOok | beginSettingsDecPwm | beginSettingsDecMorse | beginSettingsDecRaw
  | beginSettingsEncWave | beginSettingsEncWav | beginSettingsEncOok | beginSettingsEncPwm
  | beginSettingsEncMorse => exact .beginSettings _
  | setSettingDecOok id v | setSettingDecPwm id v | setSettingDecMorse id v | setSettingDecRaw id v
  | setSettingEncWave id v | setSettingEncWav id v | setSettingEncOok id v | setSettingEncPwm id v
  | setSettingEncMorse id v => exact .setSetting _ id v
  | endSettingsDecOok | endSettingsDecPwm | endSettingsDecMorse | endSettingsDecRaw | endSettingsEncWave
  | endSettingsEncWav | endSettingsEncOok | endSettingsEncPwm | endSettingsEncMorse => exact .endSettings _
  | releaseDecOok | releaseDecPwm | releaseDecMorse | releaseDecRaw | releaseEncWave | releaseEncWav
  | releaseEncOok | releaseEncPwm | releaseEncMorse => exact .release _
  | getStatusDecOok | getStatusDecPwm | getStatusDecMorse | getStatusDecRaw | getStatusEncWave
  | getStatusEncWav | getStatusEncOok | getStatusEncPwm | getStatusEncMorse => exact .getStatus _
  | initializeDecOok | initializeDecPwm | initializeDecMorse | initializeDecRaw => exact .start _ _
  | parseNextSamplesDecOok raw | parseNextSamplesDecPwm raw | parseNextSamplesDecMorse raw
  | parseNextSamplesDecRaw raw => exact .parse _ raw
  | terminateDecOok | terminateDecPwm | terminateDecMorse | terminateDecRaw => exact .terminate _
  | readDecodedDecOok | readDecodedDecPwm | readDecodedDecMorse | readDecodedDecRaw => exact .readDecoded _ _
  | readCaptureDecOok | readCaptureDecPwm | readCaptureDecMorse => exact .readCapture _ _
  | resetEncWave | resetEncWav | resetEncOok | resetEncPwm | resetEncMorse => exact .reset _
  | prepareNextSamplesEncWave | prepareNextSamplesEncWav | prepareNextSamplesEncOok | prepareNextSamplesEncPwm
  | prepareNextSamplesEncMorse => exact .prepare _ _
  | pbLoad => exact .pbLoad _ _ _ _
  | fltCreate => exact .fltCreate _ _ _
  | fltSetDemod => exact .fltSetDemod _ _
  | fltSetCapture => exact .fltSetCapture _
  | fltProcessChunk => exact .fltProcessChunk _ _
  | fltReadOutput => exact .fltReadOutput
  | fltReadCapture => exact .fltReadCapture _
  | fltRelease => exact .fltRelease
  | txBind => exact .txBind _
  | txStart => exact .txStart _
  | txStop => exact .txStop
  | txStatus => exact .txStatus
  | rxBind => exact .rxBind _
  | rxStart => exact .rxStart _
  | rxStop => exact .rxStop
  | rxStatus => exact .rxStatus
  | sysStatus => exact .sysStatus
  | evTxSent => exact .evTxSent _ _
  | evRxCaptured => exact .evRxCaptured _ _
  | reqTxSend => exact .reqTxSend _ _
  | reqRxCapture => exact .reqRxCapture _ _
  | reqRxAbort buf count => exact .reqRxAbort buf count

/-- A step is one move and its end (R12). -/
theorem step_eq_next {s t : State} (h : step s = .next t) :
    ∃ r, moveStep (nextMove s) s = .next r ∧ t = endMove s r := by
  unfold step at h
  cases hm : moveStep (nextMove s) s with
  | next r => rw [hm] at h; injection h with h; exact ⟨r, rfl, h.symm⟩
  | fault r => rw [hm] at h; cases h
  | refused r => rw [hm] at h; cases h

end Sys2Proof.Machine
end

section
/-! The state after reset: the invariants it meets, and the step that leads to it (70_reset_and_hazards.md R340). -/

namespace Sys2Proof.Machine

/-- Every unit is absent, unbound and not ready after reset (R43). -/
@[simp] theorem State.plug_reset (u : PluginUnit) : State.reset.plug u = Plug.reset u := by
  rcases u with (_ | _ | _ | _) | (_ | _ | _ | _ | _) <;> rfl

theorem memoriesCanonical_reset : MemoriesCanonical State.reset where
  tx := by decide
  rx := by decide
  pbm := Memory.wf_nil
  flt := Memory.wf_nil
  ook := Memory.wf_nil
  pwm := Memory.wf_nil
  morse := Memory.wf_nil

theorem txPoolInv_reset : TxPoolInv State.reset where
  owner := rfl
  filledSize := rfl
  fillIdx := by decide
  inflight := by intro j h; cases h
  idle := fun _ => ⟨rfl, rfl⟩
  starting := by rintro (h | h) <;> cases h
  running := by intro h; cases h
  filled := by intro h; cases h
  hand := by intro h; cases h
  session := fun h => absurd rfl h

theorem rxPoolInv_reset : RxPoolInv State.reset where
  owner := rfl
  wrIdx := by decide
  pending := rfl
  rdIdx := by decide
  running := by intro h; cases h
  quiet := fun _ => ⟨rfl, rfl⟩
  session := fun h => absurd rfl h

theorem sessionInv_reset : SessionInv State.reset where
  txBound e := by rw [State.plug_reset]; rfl
  rxBound d := by rw [State.plug_reset]; rfl
  absent u _ := by rw [State.plug_reset]; rfl
  tx h := absurd rfl h
  rx h := absurd rfl h

theorem levelInv_reset : LevelInv State.reset where
  wave := Nat.zero_le _
  lut := by intro row h; cases h
  wav := Nat.zero_le _
  ook := Nat.zero_le _
  pwm := Nat.zero_le _
  morse := Nat.zero_le _

/-- Settles O12: each invariant holds of the values R43 gives. -/
theorem resetMeetsTheInvariants : Obligations.ResetMeetsTheInvariants :=
  ⟨memoriesCanonical_reset, txPoolInv_reset, rxPoolInv_reset, sessionInv_reset, levelInv_reset⟩

/-- The reset input leaves every plugin unit as after reset (R340, R342). -/
theorem State.regs_resetInput (s : State) (u : PluginUnit) : s.resetInput.regs u = State.reset.regs u := by
  rcases u with (_ | _ | _ | _) | (_ | _ | _ | _ | _) <;> rfl

theorem State.plug_resetInput (s : State) (u : PluginUnit) : s.resetInput.plug u = Plug.reset u :=
  State.plug_reset u

/-- Settles O18: the move `rst` at the head of the agenda is the reset input. -/
theorem theResetInputRestoresEveryRegister : Obligations.TheResetInputRestoresEveryRegister := by
  intro s moves hagenda
  have hstep : step s = .next { s.resetInput with agenda := moves, tick := s.tick + 1 } := step_of_agenda hagenda
  refine ⟨_, hstep, s.regs_resetInput, rfl, rfl, rfl, rfl, rfl, rfl, rfl, rfl, rfl, rfl, fun u => ?_⟩
  have hplug := s.plug_resetInput u
  exact ⟨congrArg Plug.lc hplug, congrArg Plug.ready hplug, congrArg Plug.bound hplug⟩

end Sys2Proof.Machine
end

section
/-! `SET_SETTING` (41_lifecycle_settings.md R145): the settings register file after one write, and the accepted command. -/

namespace Sys2Proof.Machine

/-- The settings after one write: at `id` the new value, where the unit has that setting; elsewhere what was there. -/
theorem Plug.setting?_setSetting (p : Plug) (id k : Nat) (v : SetVal) :
    (p.setSetting id v).setting? k = if k = id then (p.setting? k).map (fun _ => v) else p.setting? k := by
  unfold Plug.setting? Plug.setSetting
  induction p.settings with
  | nil => simp
  | cons e es ih =>
    obtain ⟨i, w⟩ := e
    have hhead : (if i = id then (i, v) else (i, w)) = (i, if i = id then v else w) := by split <;> rfl
    simp only [List.map_cons, hhead, List.lookup_cons]
    cases hki : k == i with
    | false => exact ih
    | true =>
      obtain rfl := beq_iff_eq.1 hki
      exact apply_ite some (k = id) v w

theorem exec_setSetting (u : PluginUnit) (id : BitVec 16) (v : SettingArg) (s : State) :
    exec (Instr.setSetting u id v) s = setSettingCommand u id v s := by
  rcases u with (_ | _ | _ | _) | (_ | _ | _ | _ | _) <;> rfl

/-- An accepted `SET_SETTING` writes the one setting and answers OK (R145). -/
theorem setSettingCommand_accepted {u : PluginUnit} {s : State} {id : BitVec 16} {v : SettingArg} {d : SettingDef}
    {x : SetVal} (hadm : Admits s u .config) (hdef : settingDef? u id.toNat = some d)
    (htag : v.tag.toNat = d.default.tag) (hval : settingValue? v = some x) (hlegal : d.legal x = true) :
    setSettingCommand u id v s = .next ((s.setPlug u ((s.plug u).setSetting id.toNat x)).respond .ok 0 []) := by
  have hacc : acceptedValue? d v = some x := by simp [acceptedValue?, hval, hlegal]
  exact pluginCommand_done hadm.running (.inr hadm.free) (by simp [hadm.state])
    (by simp [hdef, htag, hacc, CmdResult.succeed])

/-- Settles O22: the accepted command, then the settings register file after one write. -/
theorem setSettingWritesOneRegister : Obligations.SetSettingWritesOneRegister := by
  intro u s id v d x hadm hdef htag hval hlegal
  refine ⟨_, (exec_setSetting u id v s).trans (setSettingCommand_accepted hadm hdef htag hval hlegal), ?_, ?_, ?_⟩
  · intro hsome
    rw [State.plug_respond, State.plug_setPlug, Plug.setting?_setSetting, if_pos rfl]
    obtain ⟨y, hy⟩ := Option.isSome_iff_exists.1 hsome
    rw [hy, Option.map_some]
  · intro k hk
    rw [State.plug_respond, State.plug_setPlug, Plug.setting?_setSetting, if_neg hk]
  · rw [State.plug_respond, State.plug_setPlug]
    rfl

end Sys2Proof.Machine
end

section
/-! What stays while PLCPHY is halted (60_exceptions.md R306, R309): every move but the reset input, and there everything but
what TRANSPORT does (log entry 8). -/

namespace Sys2Proof.Machine

/-- Raising a fatal error again changes nothing: the first code stays (R306). -/
theorem raiseFatal_of_halted {s : State} (hh : s.halted = true) (c : FatalCode) : s.raiseFatal c = s := by
  cases s; simp_all [State.raiseFatal]

/-- From `s` to `t` PLCPHY has done nothing of its own: at most it has answered, lost request words to TRANSPORT and got
event words from it. -/
structure HaltKeeps (s t : State) : Prop where
  halted : t.halted = true
  fatalCode : t.fatalCode = s.fatalCode
  regs : ∀ u, t.regs u = s.regs u
  flt : t.flt = s.flt
  txs : t.txs = s.txs
  rxs : t.rxs = s.rxs
  txPool : t.txPool = s.txPool
  txFilled : t.txFilled = s.txFilled
  rxPool : t.rxPool = s.rxPool
  pbm : t.pbm = s.pbm
  evOut : t.evOut <:+ s.evOut
  txQueue : s.txQueue <+: t.txQueue
  rxQueue : s.rxQueue <+: t.rxQueue
  txHas : t.txHas = s.txHas ∨ t.txHas = none
  rxHas : t.rxHas = s.rxHas ∨ t.rxHas = none

namespace HaltKeeps

/-- The ports HOST and TRANSPORT see, the level inputs and a withheld stop are free to change, request words to be taken. -/
theorem of_ports {s : State} (hh : s.halted = true) {evOut : List Word} (ho : evOut <:+ s.evOut) (stopWait : Option Dir)
    (txBusy rxBusy : Bool) (cmdIn rsp evIn : List Word) (txGrant rxGrant : Option Grant) (line : List Sample)
    (agenda : List Move) (tick : Nat) :
    HaltKeeps s { s with evOut := evOut, stopWait := stopWait, txBusy := txBusy, rxBusy := rxBusy, cmdIn := cmdIn,
                         rsp := rsp, evIn := evIn, txGrant := txGrant, rxGrant := rxGrant, line := line,
                         agenda := agenda, tick := tick } where
  halted := hh
  fatalCode := rfl
  regs _ := rfl
  flt := rfl
  txs := rfl
  rxs := rfl
  txPool := rfl
  txFilled := rfl
  rxPool := rfl
  pbm := rfl
  evOut := ho
  txQueue := List.prefix_rfl
  rxQueue := List.prefix_rfl
  txHas := .inl rfl
  rxHas := .inl rfl

theorem refl {s : State} (hh : s.halted = true) : HaltKeeps s s :=
  of_ports hh List.suffix_rfl ..

theorem trans {s t r : State} (h : HaltKeeps s t) (k : HaltKeeps t r) : HaltKeeps s r where
  halted := k.halted
  fatalCode := k.fatalCode.trans h.fatalCode
  regs u := (k.regs u).trans (h.regs u)
  flt := k.flt.trans h.flt
  txs := k.txs.trans h.txs
  rxs := k.rxs.trans h.rxs
  txPool := k.txPool.trans h.txPool
  txFilled := k.txFilled.trans h.txFilled
  rxPool := k.rxPool.trans h.rxPool
  pbm := k.pbm.trans h.pbm
  evOut := k.evOut.trans h.evOut
  txQueue := h.txQueue.trans k.txQueue
  rxQueue := h.rxQueue.trans k.rxQueue
  txHas := k.txHas.elim (fun e => e ▸ h.txHas) .inr
  rxHas := k.rxHas.elim (fun e => e ▸ h.rxHas) .inr

end HaltKeeps

theorem endLoan_cases (j : Byte) (has : Option Byte) : endLoan j has = has ∨ endLoan j has = none := by
  unfold endLoan; split
  · exact .inr rfl
  · exact .inl rfl

theorem haltKeeps_respond {s : State} (hh : s.halted = true) (st : Status) (detail : BitVec 8) (ws : List Word) :
    HaltKeeps s (s.respond st detail ws) :=
  .of_ports hh List.suffix_rfl ..

theorem pluginCommand_halted {s : State} (hh : s.halted = true) (u : PluginUnit) (exempt : Bool) (legal : Lc → Bool)
    (body : CmdResult) : pluginCommand u exempt legal s body = .next s.answerHalted := by
  simp [pluginCommand, hh]

theorem blockCommand_halted {s : State} (hh : s.halted = true) (body : CmdResult) :
    blockCommand s body = .next s.answerHalted := by
  simp [blockCommand, hh]

/-- What a halted PLCPHY makes of an instruction: `E_HALTED` for every command but `SYS_STATUS` (R307), while TRANSPORT's
events join the queues and its requests are taken. -/
theorem exec_halted {i : Instr} {s t : State} (h : exec i s = .next t) (hh : s.halted = true) : HaltKeeps s t := by
  have hanswer : ∀ {o : Host.Outcome State Fault Refusal}, o = .next s.answerHalted → o = .next t → HaltKeeps s t := by
    rintro o rfl ⟨⟩
    exact haltKeeps_respond hh ..
  have hruns := exec_runs i s
  generalize exec i s = o at h hruns
  cases hruns with
  | create | acceptedSettings | beginSettings | setSetting | endSettings | release | getStatus | start | parse
  | terminate | readDecoded | readCapture | reset | prepare | pbLoad => exact hanswer (pluginCommand_halted hh ..) h
  | fltCreate | fltSetDemod | fltSetCapture | fltProcessChunk | fltReadOutput | fltReadCapture | fltRelease | txBind
  | txStart | txStatus | rxBind | rxStart | rxStatus => exact hanswer (blockCommand_halted hh _) h
  | txStop => exact hanswer ((if_pos (.inl hh)).trans (blockCommand_halted hh _)) h
  | rxStop => exact hanswer ((if_pos (.inl hh)).trans (blockCommand_halted hh _)) h
  | sysStatus => cases h; exact haltKeeps_respond hh ..
  | evTxSent buf count =>
    cases h
    exact { HaltKeeps.refl hh with txQueue := List.prefix_append _ _, txHas := endLoan_cases buf s.txHas }
  | evRxCaptured buf count =>
    cases h
    exact { HaltKeeps.refl hh with rxQueue := List.prefix_append _ _, rxHas := endLoan_cases buf s.rxHas }
  | reqTxSend | reqRxCapture | reqRxAbort => cases h; exact .of_ports hh List.suffix_rfl ..

theorem hostStep_halted {s t : State} (hh : s.halted = true) (h : hostStep s = .next t) : HaltKeeps s t := by
  unfold hostStep at h
  split at h
  · cases h; rw [completeStop, if_pos hh]; exact .of_ports hh List.suffix_rfl ..
  · split at h
    · exact (HaltKeeps.of_ports hh List.suffix_rfl ..).trans (exec_halted h hh)
    · cases h; rw [illegalCommand, if_pos hh]; exact .of_ports hh List.suffix_rfl ..
    · cases h; exact .refl hh

theorem eventStep_halted {s t : State} (hh : s.halted = true) (h : eventStep s = .next t) : HaltKeeps s t := by
  unfold eventStep at h
  split at h
  · cases h; exact .refl hh
  · split at h
    · exact (HaltKeeps.of_ports hh List.suffix_rfl ..).trans (exec_halted h hh)
    · cases h; exact .of_ports hh List.suffix_rfl ..

theorem requestStep_halted {s t : State} (hh : s.halted = true) (h : requestStep s = .next t) : HaltKeeps s t := by
  unfold requestStep at h
  split at h
  · cases h; exact .refl hh
  · rename_i w rest hout
    have hsuf : rest <:+ s.evOut := hout ▸ List.suffix_cons w rest
    split at h
    · exact (HaltKeeps.of_ports hh hsuf ..).trans (exec_halted h hh)
    · cases h; exact .of_ports hh hsuf ..

/-- A halted PLCPHY takes no step of its own: neither scheduler moves and neither timer expires (R306). -/
theorem turnStep_halted {turn : Turn} {s t : State} (hh : s.halted = true) (h : turnStep turn s = .next t) :
    HaltKeeps s t := by
  have hstay : ∀ {o : Host.Outcome State Fault Refusal}, o = .next s → o = .next t → HaltKeeps s t := by
    rintro o rfl ⟨⟩
    exact .refl hh
  cases turn with
  | host => exact hostStep_halted hh h
  | txs => exact hstay (if_pos hh) h
  | rxs => exact hstay (if_pos hh) h
  | captureTimeout => exact hstay (by simp [turnStep, captureTimeoutStep, captureTimeoutEnabled, hh]) h
  | joinExpiry => exact hstay (if_pos hh) h
  | event => exact eventStep_halted hh h
  | request => exact requestStep_halted hh h

theorem transportRead_halted {s : State} (hh : s.halted = true) (j i : Nat) : HaltKeeps s (transportRead j i s) := by
  unfold transportRead; split
  · rw [raiseFatal_of_halted hh]; exact .refl hh
  · exact .of_ports hh List.suffix_rfl ..

theorem transportRxRead_halted {s : State} (hh : s.halted = true) (j i : Nat) : HaltKeeps s (transportRxRead j i s) := by
  unfold transportRxRead; split
  · rw [raiseFatal_of_halted hh]; exact .refl hh
  · exact .of_ports hh List.suffix_rfl ..

/-- One sample of one buffer of a pool written. -/
def PoolWrite (pool pool' : List PoolBuf) (j i : Nat) (v : Sample) : Prop :=
  ∃ b, pool[j]? = some b ∧ pool' = pool.set j { b with samples := Memory.write b.samples i v }

theorem PoolWrite.owner {pool pool' : List PoolBuf} {j i : Nat} {v : Sample} (h : PoolWrite pool pool' j i v) :
    pool'.map (·.owner) = pool.map (·.owner) := by
  obtain ⟨b, hb, rfl⟩ := h
  obtain ⟨hj, hb⟩ := List.getElem?_eq_some_iff.1 hb
  have howner : (pool.map (·.owner))[j]'(by simpa using hj) = b.owner := by rw [List.getElem_map, hb]
  calc (pool.set j { b with samples := Memory.write b.samples i v }).map (·.owner)
    _ = (pool.map (·.owner)).set j b.owner := List.map_set
    _ = pool.map (·.owner) := by rw [← howner, List.set_getElem_self]

theorem PoolWrite.read {pool pool' : List PoolBuf} {j i : Nat} {v : Sample} (h : PoolWrite pool pool' j i v) {k l : Nat}
    (hkl : ¬(k = j ∧ l = i)) :
    (pool'[k]?).map (fun b => Memory.read b.samples l) = (pool[k]?).map (fun b => Memory.read b.samples l) := by
  obtain ⟨b, hb, rfl⟩ := h
  by_cases hk : k = j
  · subst hk
    have hl : l ≠ i := fun hl => hkl ⟨rfl, hl⟩
    have hlt := (List.getElem?_eq_some_iff.1 hb).1
    rw [List.getElem?_set_self hlt, hb, Option.map_some, Option.map_some, Memory.read_write_other _ _ hl]
  · rw [List.getElem?_set_ne (Ne.symm hk)]

/-- Everything a move other than the reset input can do while PLCPHY is halted: nothing of PLCPHY's own, or one sample
written by TRANSPORT. -/
theorem moveStep_halted {m : Move} {s t : State} (hh : s.halted = true) (hm : m ≠ .rst) (h : moveStep m s = .next t) :
    HaltKeeps s t ∨
    (∃ j i v pool, m = .txWrite j i v ∧ PoolWrite s.txPool pool j i v ∧ t = { s with txPool := pool }) ∨
    (∃ j i v pool, m = .rxWrite j i v ∧ PoolWrite s.rxPool pool j i v ∧ t = { s with rxPool := pool }) := by
  cases m with
  | turn turn => exact .inl (turnStep_halted hh h)
  | txRead j i => cases h; exact .inl (transportRead_halted hh j i)
  | rxRead j i => cases h; exact .inl (transportRxRead_halted hh j i)
  | rxWrite j i v =>
    cases h
    rcases transportWrite_cases s j i v with ⟨c, e, -⟩ | ⟨b, hb, -, -, -, e⟩
    · rw [e, raiseFatal_of_halted hh]; exact .inl (.refl hh)
    · exact .inr (.inr ⟨j, i, v, _, rfl, ⟨b, hb, rfl⟩, e⟩)
  | txWrite j i v =>
    cases h
    rcases transportTxWrite_cases s j i v with ⟨c, e, -⟩ | ⟨b, hb, -, -, -, e⟩
    · rw [e, raiseFatal_of_halted hh]; exact .inl (.refl hh)
    · exact .inr (.inl ⟨j, i, v, _, rfl, ⟨b, hb, rfl⟩, e⟩)
  | txBusy b => cases h; exact .inl (.of_ports hh List.suffix_rfl ..)
  | rxBusy b => cases h; exact .inl (.of_ports hh List.suffix_rfl ..)
  | rst => exact absurd rfl hm

/-- Settles O17: the first code stays (R306), and from a halted state each move is one of the three kinds of
`moveStep_halted`. -/
theorem theHaltLatchHoldsUntilReset : Obligations.TheHaltLatchHoldsUntilReset := by
  refine ⟨fun s c d hh => ⟨raiseFatal_eq hh c, raiseFatal_of_halted rfl d⟩, fun s t hh hrst hstep => ?_⟩
  obtain ⟨r, hmove, rfl⟩ := step_eq_next hstep
  have hkeeps := HaltKeeps.refl hh
  rcases moveStep_halted hh hrst hmove with k | ⟨j, i, v, pool, hm, hw, rfl⟩ | ⟨j, i, v, pool, hm, hw, rfl⟩
  case inl =>
    exact ⟨k.halted, k.fatalCode, k.regs, k.flt, k.txs, k.rxs, k.txFilled, k.pbm, k.evOut, congrArg _ k.txPool,
      congrArg _ k.rxPool, fun hne => absurd k.txPool hne, fun hne => absurd k.rxPool hne,
      fun _ _ _ => by rw [show (endMove s r).txPool = s.txPool from k.txPool],
      fun _ _ _ => by rw [show (endMove s r).rxPool = s.rxPool from k.rxPool], k.txQueue, k.rxQueue, k.txHas, k.rxHas⟩
  case inr.inl =>
    exact ⟨hh, rfl, fun _ => rfl, rfl, rfl, rfl, rfl, rfl, List.suffix_rfl, hw.owner, rfl, fun _ => ⟨j, i, v, hm⟩,
      fun hne => absurd rfl hne, fun k l hkl => hw.read fun ⟨hk, hl⟩ => hkl v (hk ▸ hl ▸ hm), fun _ _ _ => rfl,
      hkeeps.txQueue, hkeeps.rxQueue, .inl rfl, .inl rfl⟩
  case inr.inr =>
    exact ⟨hh, rfl, fun _ => rfl, rfl, rfl, rfl, rfl, rfl, List.suffix_rfl, rfl, hw.owner, fun hne => absurd rfl hne,
      fun _ => ⟨j, i, v, hm⟩, fun _ _ _ => rfl, fun k l hkl => hw.read fun ⟨hk, hl⟩ => hkl v (hk ▸ hl ▸ hm),
      hkeeps.txQueue, hkeeps.rxQueue, .inl rfl, .inl rfl⟩

end Sys2Proof.Machine
end

section
/-! The rules of bindings and sessions: what a state must share with another for `SessionInv` to pass from one to the other,
and the unit each operation is confined to. -/

namespace Sys2Proof.Machine

/-! States that differ in what no session needs. -/

/-- The plugin registers and the decoders' filters are the same. -/
structure SameUnits (s t : State) : Prop where
  plug : ∀ u, t.plug u = s.plug u
  flt : ∀ d, t.decFlt d = s.decFlt d

/-- From `s` to `t` no binding changes, no bound unit becomes absent, no session begins, and the unit of a session that goes
on keeps its lifecycle state and the chunk size of its filter. -/
structure SessionFrame (s t : State) : Prop where
  enc : t.txs.enc = s.txs.enc
  dec : t.rxs.dec = s.rxs.dec
  tx : t.txs.state ≠ .idle → s.txs.state ≠ .idle
  rx : t.rxs.state ≠ .idle → s.rxs.state ≠ .idle ∧ t.rxs.n = s.rxs.n
  bound : ∀ u, (t.plug u).bound = (s.plug u).bound
  absent : ∀ u, (t.plug u).lc = .absent → (s.plug u).lc = .absent ∨ (s.plug u).bound = .unbound
  lc : ∀ u, t.busy u = true → (t.plug u).lc = (s.plug u).lc
  flt : ∀ d, t.busy (.dec d) = true → ∀ g, t.decFlt d = some g →
    ∃ f, s.decFlt d = some f ∧ g.allocated = f.allocated ∧ g.n = f.n

theorem busy_of_tx {s : State} {u : PluginUnit} (h : (s.plug u).bound = .tx) :
    s.busy u = decide (s.txs.state ≠ .idle) := by
  simp [State.busy, h]

theorem busy_of_rx {s : State} {u : PluginUnit} (h : (s.plug u).bound = .rx) :
    s.busy u = decide (s.rxs.state ≠ .idle) := by
  simp [State.busy, h]

namespace SessionInv

variable {s : State}

theorem bound_of_enc (hs : SessionInv s) {e : EncUnit} (h : s.txs.enc = some e) : (s.plug (.enc e)).bound = .tx := by
  rw [hs.txBound, if_pos h]

theorem bound_of_dec (hs : SessionInv s) {d : DecUnit} (h : s.rxs.dec = some d) : (s.plug (.dec d)).bound = .rx := by
  rw [hs.rxBound, if_pos h]

theorem bound_of_enc_ne (hs : SessionInv s) {e : EncUnit} (h : s.txs.enc ≠ some e) :
    (s.plug (.enc e)).bound = .unbound := by
  rw [hs.txBound, if_neg h]

theorem bound_of_dec_ne (hs : SessionInv s) {d : DecUnit} (h : s.rxs.dec ≠ some d) :
    (s.plug (.dec d)).bound = .unbound := by
  rw [hs.rxBound, if_neg h]

theorem enc_ne_of_absent (hs : SessionInv s) {e : EncUnit} (h : (s.plug (.enc e)).lc = .absent) :
    s.txs.enc ≠ some e := by
  intro he
  have hbound := hs.absent _ h
  rw [hs.bound_of_enc he] at hbound
  cases hbound

theorem dec_ne_of_absent (hs : SessionInv s) {d : DecUnit} (h : (s.plug (.dec d)).lc = .absent) :
    s.rxs.dec ≠ some d := by
  intro hd
  have hbound := hs.absent _ h
  rw [hs.bound_of_dec hd] at hbound
  cases hbound

theorem enc_of_bound (hs : SessionInv s) {u : PluginUnit} (h : (s.plug u).bound = .tx) :
    ∃ e, u = .enc e ∧ s.txs.enc = some e := by
  cases u with
  | enc e => exact ⟨e, rfl, by_contra fun he => by rw [hs.bound_of_enc_ne he] at h; cases h⟩
  | dec d => rw [hs.rxBound] at h; split at h <;> cases h

theorem dec_of_bound (hs : SessionInv s) {u : PluginUnit} (h : (s.plug u).bound = .rx) :
    ∃ d, u = .dec d ∧ s.rxs.dec = some d := by
  cases u with
  | dec d => exact ⟨d, rfl, by_contra fun hd => by rw [hs.bound_of_dec_ne hd] at h; cases h⟩
  | enc e => rw [hs.txBound] at h; split at h <;> cases h

/-- A bound encoder that is not busy has an idle scheduler. -/
theorem txIdle_of_free (hs : SessionInv s) {e : EncUnit} (he : s.txs.enc = some e) (hfree : s.busy (.enc e) = false) :
    s.txs.state = .idle := by
  simpa [busy_of_tx (hs.bound_of_enc he)] using hfree

/-- A bound decoder that is not busy has an idle scheduler. -/
theorem rxIdle_of_free (hs : SessionInv s) {d : DecUnit} (hd : s.rxs.dec = some d) (hfree : s.busy (.dec d) = false) :
    s.rxs.state = .idle := by
  simpa [busy_of_rx (hs.bound_of_dec hd)] using hfree

end SessionInv

namespace SessionFrame

variable {s t r : State}

/-- Units as they were, and each scheduler at most on its way to IDLE. -/
theorem of_units (hu : SameUnits s t) (enc : t.txs.enc = s.txs.enc) (dec : t.rxs.dec = s.rxs.dec)
    (tx : t.txs.state ≠ .idle → s.txs.state ≠ .idle)
    (rx : t.rxs.state ≠ .idle → s.rxs.state ≠ .idle ∧ t.rxs.n = s.rxs.n) : SessionFrame s t where
  enc := enc
  dec := dec
  tx := tx
  rx := rx
  bound u := by rw [hu.plug]
  absent u h := .inl (by rwa [hu.plug] at h)
  lc u _ := by rw [hu.plug]
  flt d _ g hg := ⟨g, hu.flt d ▸ hg, rfl, rfl⟩

/-- Neither the units nor the schedulers change: of the ports, the pools, the queues, the filter of unit 0 and the halt
latch no session depends. -/
theorem of_same (hu : SameUnits s t := by exact ⟨fun _ => rfl, fun _ => rfl⟩) (txs : t.txs = s.txs := by rfl)
    (rxs : t.rxs = s.rxs := by rfl) : SessionFrame s t :=
  of_units hu (by rw [txs]) (by rw [rxs]) (by rw [txs]; exact id) (by rw [rxs]; exact fun h => ⟨h, rfl⟩)

/-- A move of TXS that keeps the units. -/
theorem of_tx (tx : t.txs.state ≠ .idle → s.txs.state ≠ .idle)
    (hu : SameUnits s t := by exact ⟨fun _ => rfl, fun _ => rfl⟩) (enc : t.txs.enc = s.txs.enc := by rfl)
    (rxs : t.rxs = s.rxs := by rfl) : SessionFrame s t :=
  of_units hu enc (by rw [rxs]) tx (by rw [rxs]; exact fun h => ⟨h, rfl⟩)

/-- A move of RXS that keeps the units. -/
theorem of_rx (rx : t.rxs.state ≠ .idle → s.rxs.state ≠ .idle)
    (hu : SameUnits s t := by exact ⟨fun _ => rfl, fun _ => rfl⟩) (dec : t.rxs.dec = s.rxs.dec := by rfl)
    (n : t.rxs.n = s.rxs.n := by rfl) (txs : t.txs = s.txs := by rfl) : SessionFrame s t :=
  of_units hu (by rw [txs]) dec (by rw [txs]; exact id) fun h => ⟨rx h, n⟩

theorem refl (s : State) : SessionFrame s s := of_same

theorem busy (h : SessionFrame s t) {u : PluginUnit} (hb : t.busy u = true) : s.busy u = true := by
  unfold State.busy at hb ⊢
  rw [h.bound u] at hb
  cases hbound : (s.plug u).bound with
  | unbound => rw [hbound] at hb; exact hb
  | tx => rw [hbound] at hb; exact decide_eq_true (h.tx (of_decide_eq_true hb))
  | rx => rw [hbound] at hb; exact decide_eq_true (h.rx (of_decide_eq_true hb)).1

theorem trans (h : SessionFrame s t) (k : SessionFrame t r) : SessionFrame s r where
  enc := k.enc.trans h.enc
  dec := k.dec.trans h.dec
  tx hr := h.tx (k.tx hr)
  rx hr :=
    have ⟨ht, hn⟩ := k.rx hr
    have ⟨hs, hm⟩ := h.rx ht
    ⟨hs, hn.trans hm⟩
  bound u := (k.bound u).trans (h.bound u)
  absent u hr := (k.absent u hr).elim (h.absent u) fun hb => .inr ((h.bound u).symm.trans hb)
  lc u hb := (k.lc u hb).trans (h.lc u (k.busy hb))
  flt d hb g hg := by
    obtain ⟨f, hf, ha, hn⟩ := k.flt d hb g hg
    obtain ⟨f', hf', ha', hn'⟩ := h.flt d (k.busy hb) f hf
    exact ⟨f', hf', ha.trans ha', hn.trans hn'⟩

end SessionFrame

namespace SessionInv

variable {s t : State}

/-- The frame is enough for bindings and sessions to stay in agreement. -/
theorem frame (hs : SessionInv s) (h : SessionFrame s t) : SessionInv t where
  txBound e := by rw [h.bound, h.enc, hs.txBound]
  rxBound d := by rw [h.bound, h.dec, hs.rxBound]
  absent u hu := (h.bound u).trans ((h.absent u hu).elim (hs.absent u) id)
  tx ht := by
    obtain ⟨e, he, hlc⟩ := hs.tx (h.tx ht)
    have hbusy : t.busy (.enc e) = true := by
      rw [busy_of_tx ((h.bound _).trans (hs.bound_of_enc he))]; exact decide_eq_true ht
    exact ⟨e, h.enc.trans he, (h.lc _ hbusy).trans hlc⟩
  rx ht := by
    obtain ⟨hrx, hn⟩ := h.rx ht
    obtain ⟨d, hd, hlc, hflt⟩ := hs.rx hrx
    have hbusy : t.busy (.dec d) = true := by
      rw [busy_of_rx ((h.bound _).trans (hs.bound_of_dec hd))]; exact decide_eq_true ht
    refine ⟨d, h.dec.trans hd, (h.lc _ hbusy).trans hlc, fun g hg => ?_⟩
    obtain ⟨f, hf, ha, hm⟩ := h.flt d hbusy g hg
    obtain ⟨halloc, hsize⟩ := hflt f hf
    exact ⟨ha.trans halloc, (hm.trans hsize).trans hn.symm⟩

/-- What TXS and the encoders must meet after a step that leaves RXS and the decoders as they were. -/
theorem of_encoders (hs : SessionInv s) (decs : ∀ d, t.plug (.dec d) = s.plug (.dec d))
    (flts : ∀ d, t.decFlt d = s.decFlt d) (rxs : t.rxs = s.rxs)
    (bound : ∀ e, (t.plug (.enc e)).bound = if t.txs.enc = some e then .tx else .unbound)
    (absent : ∀ e, (t.plug (.enc e)).lc = .absent → t.txs.enc ≠ some e)
    (tx : t.txs.state ≠ .idle → ∃ e, t.txs.enc = some e ∧ (t.plug (.enc e)).lc = .active) : SessionInv t where
  txBound := bound
  rxBound d := by rw [decs, rxs, hs.rxBound]
  absent
    | .dec d => by rw [decs]; exact hs.absent (.dec d)
    | .enc e => fun h => by rw [bound, if_neg (absent e h)]
  tx := tx
  rx h := by
    rw [rxs] at h ⊢
    obtain ⟨d, hd, hlc, hflt⟩ := hs.rx h
    exact ⟨d, hd, by rwa [decs], by rwa [flts]⟩

/-- What RXS and the decoders must meet after a step that leaves TXS and the encoders as they were. -/
theorem of_decoders (hs : SessionInv s) (encs : ∀ e, t.plug (.enc e) = s.plug (.enc e)) (txs : t.txs = s.txs)
    (bound : ∀ d, (t.plug (.dec d)).bound = if t.rxs.dec = some d then .rx else .unbound)
    (absent : ∀ d, (t.plug (.dec d)).lc = .absent → t.rxs.dec ≠ some d)
    (rx : t.rxs.state ≠ .idle → ∃ d, t.rxs.dec = some d ∧ (t.plug (.dec d)).lc = .active ∧
      ∀ f, t.decFlt d = some f → f.allocated = true ∧ f.n = t.rxs.n) : SessionInv t where
  txBound e := by rw [encs, txs, hs.txBound]
  rxBound := bound
  absent
    | .enc e => by rw [encs]; exact hs.absent (.enc e)
    | .dec d => fun h => by rw [bound, if_neg (absent d h)]
  tx h := by
    rw [txs] at h ⊢
    obtain ⟨e, he, hlc⟩ := hs.tx h
    exact ⟨e, he, by rwa [encs]⟩
  rx := rx

end SessionInv

/-! Operations confined to one unit. -/

theorem plug_eq_of_regs {s t : State} {u : PluginUnit} (h : t.regs u = s.regs u) : t.plug u = s.plug u := by
  rcases u with (_ | _ | _ | _) | (_ | _ | _ | _ | _) <;> injection h with h <;> simp only [State.plug, h]

theorem decFlt_eq_of_regs {s t : State} {d : DecUnit} (h : t.regs (.dec d) = s.regs (.dec d)) :
    t.decFlt d = s.decFlt d := by
  cases d <;> injection h with h <;> simp only [State.decFlt, h]

namespace OnlyUnit

variable {s t r : State} {u : PluginUnit}

theorem trans (h : OnlyUnit u s t) (k : OnlyUnit u t r) : OnlyUnit u s r where
  others v hv := (k.others v hv).trans (h.others v hv)
  system := k.system.trans h.system
  ports := k.ports.trans h.ports

theorem txs (h : OnlyUnit u s t) : t.txs = s.txs := congrArg SystemRegs.txs h.system

theorem rxs (h : OnlyUnit u s t) : t.rxs = s.rxs := congrArg SystemRegs.rxs h.system

theorem plug (h : OnlyUnit u s t) {v : PluginUnit} (hv : v ≠ u) : t.plug v = s.plug v :=
  plug_eq_of_regs (h.others v hv)

theorem decFlt (h : OnlyUnit u s t) {d : DecUnit} (hd : .dec d ≠ u) : t.decFlt d = s.decFlt d :=
  decFlt_eq_of_regs (h.others _ hd)

/-- A unit that is not busy may change as it will, as long as it stays bound as it was and, if bound, does not become
absent. -/
theorem sessionFrame (h : OnlyUnit u s t) (hfree : s.busy u = false) (bound : (t.plug u).bound = (s.plug u).bound)
    (absent : (t.plug u).lc = .absent → (s.plug u).lc = .absent ∨ (s.plug u).bound = .unbound) : SessionFrame s t := by
  have hbusy : t.busy u = false := by rw [← hfree]; simp only [State.busy, bound, h.txs, h.rxs]
  have hne : ∀ {v}, t.busy v = true → v ≠ u := by rintro v hv rfl; rw [hbusy] at hv; cases hv
  exact {
    enc := by rw [h.txs]
    dec := by rw [h.rxs]
    tx := by rw [h.txs]; exact id
    rx := by rw [h.rxs]; exact fun hr => ⟨hr, rfl⟩
    bound := fun v => by
      by_cases hv : v = u
      · rw [hv, bound]
      · rw [h.plug hv]
    absent := fun v => by
      by_cases hv : v = u
      · rw [hv]; exact absent
      · rw [h.plug hv]; exact .inl
    lc := fun v hv => by rw [h.plug (hne hv)]
    flt := fun d hd g hg => ⟨g, h.decFlt (hne hd) ▸ hg, rfl, rfl⟩ }

end OnlyUnit

theorem onlyUnit_decOok (s : State) (d : DecOok) : OnlyUnit (.dec .ook) s { s with decOok := d } :=
  ⟨fun v hv => by
    rcases v with (_ | _ | _ | _) | (_ | _ | _ | _ | _) <;> first | exact absurd rfl hv | rfl, rfl, rfl⟩

theorem onlyUnit_decPwm (s : State) (d : DecPwm) : OnlyUnit (.dec .pwm) s { s with decPwm := d } :=
  ⟨fun v hv => by
    rcases v with (_ | _ | _ | _) | (_ | _ | _ | _ | _) <;> first | exact absurd rfl hv | rfl, rfl, rfl⟩

theorem onlyUnit_decMorse (s : State) (d : DecMorse) : OnlyUnit (.dec .morse) s { s with decMorse := d } :=
  ⟨fun v hv => by
    rcases v with (_ | _ | _ | _) | (_ | _ | _ | _ | _) <;> first | exact absurd rfl hv | rfl, rfl, rfl⟩

theorem onlyUnit_decRaw (s : State) (d : DecRaw) : OnlyUnit (.dec .raw) s { s with decRaw := d } :=
  ⟨fun v hv => by
    rcases v with (_ | _ | _ | _) | (_ | _ | _ | _ | _) <;> first | exact absurd rfl hv | rfl, rfl, rfl⟩

theorem onlyUnit_setPlug (s : State) (u : PluginUnit) (p : Plug) : OnlyUnit u s (s.setPlug u p) where
  others v hv := by
    rcases u with (_ | _ | _ | _) | (_ | _ | _ | _ | _) <;> rcases v with (_ | _ | _ | _) | (_ | _ | _ | _ | _) <;>
      first | exact absurd rfl hv | rfl
  system := by rcases u with (_ | _ | _ | _) | (_ | _ | _ | _ | _) <;> rfl
  ports := by rcases u with (_ | _ | _ | _) | (_ | _ | _ | _ | _) <;> rfl

theorem onlyUnit_setDecFlt (s : State) (d : DecUnit) (f : Flt) : OnlyUnit (.dec d) s (s.setDecFlt d f) where
  others v hv := by
    cases d <;> rcases v with (_ | _ | _ | _) | (_ | _ | _ | _ | _) <;> first | exact absurd rfl hv | rfl
  system := by cases d <;> rfl
  ports := by cases d <;> rfl

theorem onlyUnit_createBody (u : PluginUnit) (s : State) : OnlyUnit u s (createBody u s) where
  others v hv := by
    rcases u with (_ | _ | _ | _) | (_ | _ | _ | _ | _) <;> rcases v with (_ | _ | _ | _) | (_ | _ | _ | _ | _) <;>
      first | exact absurd rfl hv | rfl
  system := by rcases u with (_ | _ | _ | _) | (_ | _ | _ | _ | _) <;> rfl
  ports := by rcases u with (_ | _ | _ | _) | (_ | _ | _ | _ | _) <;> rfl

theorem plug_createBody (u : PluginUnit) (s : State) : (createBody u s).plug u = Plug.created u := by
  rcases u with (_ | _ | _ | _) | (_ | _ | _ | _ | _) <;> rfl

theorem onlyUnit_deriveUnit (u : PluginUnit) (s : State) : OnlyUnit u s (deriveUnit u s).1 where
  others v hv := by
    rcases u with (_ | _ | _ | _) | (_ | _ | _ | _ | _) <;> rcases v with (_ | _ | _ | _) | (_ | _ | _ | _ | _) <;>
      first | exact absurd rfl hv | rfl
  system := by rcases u with (_ | _ | _ | _) | (_ | _ | _ | _ | _) <;> rfl
  ports := by rcases u with (_ | _ | _ | _) | (_ | _ | _ | _ | _) <;> rfl

theorem DecCore.deriveCommon_plug (c : DecCore) : c.deriveCommon.1.plug = c.plug := by
  unfold DecCore.deriveCommon; dsimp only; split <;> rfl

theorem DecOok.derive_plug (d : DecOok) : d.derive.1.core.plug = d.core.plug := by
  rw [← d.core.deriveCommon_plug]
  unfold DecOok.derive
  split
  · rename_i h; rw [h]
  · rename_i h; rw [h]; split <;> rfl

theorem DecPwm.derive_plug (d : DecPwm) : d.derive.1.core.plug = d.core.plug := by
  rw [← d.core.deriveCommon_plug]
  unfold DecPwm.derive
  split <;> (rename_i h; rw [h])

theorem DecMorse.derive_plug (d : DecMorse) : d.derive.1.core.plug = d.core.plug := by
  rw [← d.core.deriveCommon_plug]
  unfold DecMorse.derive
  split <;> (rename_i h; rw [h])

theorem EncWave.deriveSweep_plug (u : EncWave) : u.deriveSweep.1.plug = u.plug := by
  unfold EncWave.deriveSweep; dsimp only
  split
  · split <;> rfl
  · rfl

theorem EncWave.derive_plug (u : EncWave) : u.derive.1.plug = u.plug := by
  unfold EncWave.derive; dsimp only
  split
  · rw [EncWave.deriveSweep_plug]
  · rfl

theorem EncWav.derive_plug (u : EncWav) : u.derive.1.plug = u.plug := by
  unfold EncWav.derive
  split_ifs <;> rfl

theorem EncSeq.derive_plug (u : EncSeq) (segs : List Segment) : (u.derive segs).1.plug = u.plug := by
  unfold EncSeq.derive; dsimp only
  split
  · rfl
  · split <;> rfl

/-- Deriving a configuration leaves the plugin registers to `END_SETTINGS` (R147). -/
theorem plug_deriveUnit (u : PluginUnit) (s : State) : (deriveUnit u s).1.plug u = s.plug u :=
  match u with
  | .dec .ook => s.decOok.derive_plug
  | .dec .pwm => s.decPwm.derive_plug
  | .dec .morse => s.decMorse.derive_plug
  | .dec .raw => rfl
  | .enc .wave => s.encWave.derive_plug
  | .enc .wav => s.encWav.derive_plug
  | .enc .ook => s.encOok.derive_plug _
  | .enc .pwm => s.encPwm.derive_plug _
  | .enc .morse => s.encMorse.derive_plug _

theorem onlyUnit_resetBody (e : EncUnit) (s : State) : OnlyUnit (.enc e) s (resetBody e s) where
  others v hv := by
    cases e <;> rcases v with (_ | _ | _ | _) | (_ | _ | _ | _ | _) <;> first | exact absurd rfl hv | rfl
  system := by cases e <;> rfl
  ports := by cases e <;> rfl

theorem plug_resetBody (e : EncUnit) (s : State) :
    (resetBody e s).plug (.enc e) = { s.plug (.enc e) with lc := .active } := by
  cases e <;> rfl

theorem onlyUnit_terminateBody (d : DecUnit) (s : State) : OnlyUnit (.dec d) s (terminateBody d s) := by
  have hdestroy : OnlyUnit (.dec d) s (s.destroyDecFlt d) := by
    unfold State.destroyDecFlt
    split
    · exact onlyUnit_setDecFlt s d _
    · exact ⟨fun _ _ => rfl, rfl, rfl⟩
  exact hdestroy.trans (onlyUnit_setPlug ..)

theorem plug_terminateBody (d : DecUnit) (s : State) :
    (terminateBody d s).plug (.dec d) = { s.plug (.dec d) with lc := .idle } :=
  State.plug_setPlug ..

/-- A decoder core at the start of a session: ACTIVE, with a filter of the session's chunk size (R175). -/
theorem DecCore.start_ok {c c' : DecCore} {n : BitVec 16} (h : c.start n = .ok c') :
    c'.plug = { c.plug with lc := .active } ∧ c'.flt.allocated = true ∧ c'.flt.n = n := by
  unfold DecCore.start at h
  split at h
  · cases h
  · rename_i f hf
    obtain ⟨-, halloc, hn, -⟩ := fltCreate_ok hf
    cases h
    exact ⟨rfl, halloc, hn⟩

/-- From `s` to `t` decoder `d` is initialised with chunk size `n`, and nothing else changes (R174, R175, R203). -/
structure Initialised (d : DecUnit) (n : BitVec 16) (s t : State) : Prop where
  only : OnlyUnit (.dec d) s t
  plug : t.plug (.dec d) = { s.plug (.dec d) with lc := .active }
  flt : ∀ f, t.decFlt d = some f → f.allocated = true ∧ f.n = n

theorem initializeBody_done {d : DecUnit} {n : BitVec 16} {s t : State} {st : Status} {dt : BitVec 8} {ws : List Word}
    (h : initializeBody d n s = .done t st dt ws) : Initialised d n s t := by
  unfold initializeBody at h
  split at h
  · cases h
  · cases d with
    | raw => cases h; exact ⟨onlyUnit_decRaw s _, rfl, fun f hf => nomatch hf⟩
    | ook =>
      dsimp only at h
      split at h
      · cases h
      · rename_i c hc
        obtain ⟨hplug, halloc, hn⟩ := DecCore.start_ok hc
        cases h
        exact ⟨onlyUnit_decOok s _, hplug, by rintro f ⟨⟩; exact ⟨halloc, hn⟩⟩
    | pwm =>
      dsimp only at h
      split at h
      · cases h
      · rename_i c hc
        obtain ⟨hplug, halloc, hn⟩ := DecCore.start_ok hc
        cases h
        exact ⟨onlyUnit_decPwm s _, hplug, by rintro f ⟨⟩; exact ⟨halloc, hn⟩⟩
    | morse =>
      dsimp only at h
      split at h
      · cases h
      · rename_i c hc
        obtain ⟨hplug, halloc, hn⟩ := DecCore.start_ok hc
        cases h
        exact ⟨onlyUnit_decMorse s _, hplug, by rintro f ⟨⟩; exact ⟨halloc, hn⟩⟩

end Sys2Proof.Machine
end

section
/-! Bindings and sessions under every command (41_lifecycle_settings.md R142 to R148; 44_scheduler.md R262, R263, R267,
R281): a command changes only a unit that is not busy, or binds one, or begins a session. -/

namespace Sys2Proof.Machine

/-- The state a command's rule ends in, where it is done, has the property. -/
def CmdResult.DoneIn (Q : State → Prop) : CmdResult → Prop
  | .done t _ _ _ => Q t
  | .refuse _ _ => True
  | .fatal _ => True

theorem sessionFrame_respond (s : State) (st : Status) (detail : BitVec 8) (ws : List Word) :
    SessionFrame s (s.respond st detail ws) :=
  .of_same

theorem sessionFrame_raiseFatal (s : State) (c : FatalCode) : SessionFrame s (s.raiseFatal c) :=
  .of_same

theorem sessionFrame_failFatal (s : State) (c : FatalCode) : SessionFrame s (s.failFatal c) :=
  .of_same

/-- Plugin registers other than `bound` and `lc` are no part of a session. -/
theorem sessionFrame_setPlug {s : State} {u : PluginUnit} {p : Plug} (bound : p.bound = (s.plug u).bound)
    (lc : p.lc = (s.plug u).lc) : SessionFrame s (s.setPlug u p) := by
  have hplug : ∀ v, ((s.setPlug u p).plug v).bound = (s.plug v).bound ∧ ((s.setPlug u p).plug v).lc = (s.plug v).lc := by
    intro v
    by_cases hv : v = u
    · subst hv; rw [State.plug_setPlug]; exact ⟨bound, lc⟩
    · rw [State.plug_setPlug_of_ne s p hv]; exact ⟨rfl, rfl⟩
  exact {
    enc := by rw [State.setPlug_txs]
    dec := by rw [State.setPlug_rxs]
    tx := by rw [State.setPlug_txs]; exact id
    rx := by rw [State.setPlug_rxs]; exact fun h => ⟨h, rfl⟩
    bound := fun v => (hplug v).1
    absent := fun v h => .inl ((hplug v).2 ▸ h)
    lc := fun v _ => (hplug v).2
    flt := fun d _ g hg => ⟨g, by rwa [State.decFlt_setPlug] at hg, rfl, rfl⟩ }

theorem blockCommand_sessionInv {s t : State} {body : CmdResult} (hs : SessionInv s) (hbody : body.DoneIn SessionInv)
    (h : blockCommand s body = .next t) : SessionInv t := by
  rcases blockCommand_cases s body with ⟨-, e⟩ | ⟨-, r, st, d, ws, rfl, e⟩ | ⟨-, st, d, rfl, e⟩ | ⟨-, c, rfl, e⟩ <;>
    rw [e] at h <;> cases h
  · exact hs.frame (sessionFrame_respond ..)
  · exact hbody.frame (sessionFrame_respond ..)
  · exact hs.frame (sessionFrame_respond ..)
  · exact hs.frame (sessionFrame_failFatal ..)

/-- The checks of R142 leave to the command's own rule only a unit that is not busy, but for the exempt commands. -/
theorem pluginCommand_sessionInv {u : PluginUnit} {exempt : Bool} {legal : Lc → Bool} {s t : State} {body : CmdResult}
    (hs : SessionInv s)
    (hbody : (exempt = true ∨ s.busy u = false) → legal (s.plug u).lc = true → body.DoneIn SessionInv)
    (h : pluginCommand u exempt legal s body = .next t) : SessionInv t := by
  have hrefuse : ∀ st d, SessionInv (s.refusePlugin u st d) := fun st d =>
    hs.frame ((sessionFrame_setPlug (u := u) (p := (s.plug u).noteRefusal st) rfl rfl).trans
      (sessionFrame_respond ..))
  rcases pluginCommand_cases u exempt legal s body with ⟨-, e⟩ | ⟨-, -, -, e⟩ | ⟨-, -, -, e⟩ |
    ⟨-, hfree, hlegal, ⟨r, st, d, ws, rfl, e⟩ | ⟨st, d, rfl, e⟩ | ⟨c, rfl, e⟩⟩ <;>
    rw [e] at h <;> cases h
  · exact hs.frame (sessionFrame_respond ..)
  · exact hrefuse ..
  · exact hrefuse ..
  · exact (hbody hfree hlegal).frame (sessionFrame_respond ..)
  · exact hrefuse ..
  · exact hs.frame (sessionFrame_failFatal ..)

/-- A command that is not exempt is confined to a unit that is not busy. -/
theorem free_of_not_exempt {s : State} {u : PluginUnit} (h : false = true ∨ s.busy u = false) : s.busy u = false :=
  h.resolve_left Bool.false_ne_true

/-! Parsing and generating. -/

theorem Flt.processChunk_kept {f g : Flt} {raw : List Sample} {offset : Sample}
    (h : f.processChunk raw offset = .ok g) : g.allocated = f.allocated ∧ g.n = f.n := by
  obtain ⟨-, xb, yb, phase, cap, rem, rfl, -⟩ := Flt.processChunk_ok h
  exact ⟨rfl, rfl⟩

/-- Parsing leaves every decoder's filter allocated as it was and its chunk size. -/
theorem decParse_flt {d : DecUnit} {raw : List Sample} {s t : State} {k : Nat} (h : decParse d raw s = .ok (t, k))
    (e : DecUnit) (g : Flt) (hg : t.decFlt e = some g) :
    ∃ f, s.decFlt e = some f ∧ g.allocated = f.allocated ∧ g.n = f.n := by
  cases d with
  | raw =>
    simp only [decParse, Except.ok.injEq, Prod.mk.injEq] at h
    obtain ⟨rfl, -⟩ := h
    exact ⟨g, hg, rfl, rfl⟩
  | ook =>
    simp only [decParse, DecOok.parse] at h
    cases hf : s.decOok.core.flt.processChunk raw s.decOok.core.der.off with
    | error c => simp [hf] at h
    | ok f =>
      simp only [hf, Except.ok.injEq, Prod.mk.injEq] at h
      obtain ⟨rfl, -⟩ := h
      cases e with
      | ook => cases hg; exact ⟨_, rfl, Flt.processChunk_kept hf⟩
      | pwm | morse | raw => exact ⟨g, hg, rfl, rfl⟩
  | pwm =>
    simp only [decParse, DecPwm.parse] at h
    cases hf : s.decPwm.core.flt.processChunk raw s.decPwm.core.der.off with
    | error c => simp [hf] at h
    | ok f =>
      simp only [hf, Except.ok.injEq, Prod.mk.injEq] at h
      obtain ⟨rfl, -⟩ := h
      cases e with
      | pwm => cases hg; exact ⟨_, rfl, Flt.processChunk_kept hf⟩
      | ook | morse | raw => exact ⟨g, hg, rfl, rfl⟩
  | morse =>
    simp only [decParse, DecMorse.parse] at h
    cases hf : s.decMorse.core.flt.processChunk raw s.decMorse.core.der.off with
    | error c => simp [hf] at h
    | ok f =>
      simp only [hf, Except.ok.injEq, Prod.mk.injEq] at h
      obtain ⟨rfl, -⟩ := h
      cases e with
      | morse => cases hg; exact ⟨_, rfl, Flt.processChunk_kept hf⟩
      | ook | pwm | raw => exact ⟨g, hg, rfl, rfl⟩

/-- Parsing is part of a session, as it is of a command (R207). -/
theorem decParse_sessionFrame {d : DecUnit} {raw : List Sample} {s t : State} {k : Nat}
    (h : decParse d raw s = .ok (t, k)) : SessionFrame s t := by
  have hflt := decParse_flt h
  obtain ⟨hplug, ⟨a, b, c, rfl⟩, -⟩ := decParse_ok h
  exact {
    enc := rfl
    dec := rfl
    tx := id
    rx := fun hr => ⟨hr, rfl⟩
    bound := fun u => by rw [hplug]
    absent := fun u hu => .inl (by rwa [hplug] at hu)
    lc := fun u _ => by rw [hplug]
    flt := fun e _ => hflt e }

theorem encSamples_sameUnits (e : EncUnit) (k : Nat) (s : State) : SameUnits s (encSamples e k s).2 := by
  obtain ⟨-, hplug, a, b, c, d, f, heq⟩ := encSamples_frame e k s
  exact ⟨hplug, fun d => by rw [heq]; rfl⟩

theorem encSamples_schedulers (e : EncUnit) (k : Nat) (s : State) :
    (encSamples e k s).2.txs = s.txs ∧ (encSamples e k s).2.rxs = s.rxs := by
  obtain ⟨-, -, a, b, c, d, f, heq⟩ := encSamples_frame e k s
  rw [heq]
  exact ⟨rfl, rfl⟩

/-- Generating is part of a session, as it is of a command (R211). -/
theorem encPrepare_ok {e : EncUnit} {k cap : Nat} {s t : State} {out : List Sample}
    (h : encPrepare e k cap s = .ok (out, t)) : SameUnits s t ∧ t.txs = s.txs ∧ t.rxs = s.rxs := by
  unfold encPrepare at h
  split at h
  · cases h
  · injection h with h
    obtain rfl : (encSamples e k s).2 = t := congrArg Prod.snd h
    exact ⟨encSamples_sameUnits e k s, encSamples_schedulers e k s⟩

/-! The commands of a plugin unit. -/

variable {s t : State} {u : PluginUnit}

theorem createCommand_sessionInv (hs : SessionInv s) (h : createCommand u s = .next t) : SessionInv t := by
  refine pluginCommand_sessionInv hs (fun hfree hlc => ?_) h
  have habsent : (s.plug u).lc = .absent := of_decide_eq_true hlc
  refine hs.frame ((onlyUnit_createBody u s).sessionFrame (free_of_not_exempt hfree) ?_ fun _ => .inl habsent)
  rw [plug_createBody, hs.absent u habsent]
  rfl

theorem beginSettingsCommand_sessionInv (hs : SessionInv s) (h : beginSettingsCommand u s = .next t) :
    SessionInv t := by
  refine pluginCommand_sessionInv hs (fun hfree _ => ?_) h
  refine hs.frame ((onlyUnit_setPlug s u _).sessionFrame (free_of_not_exempt hfree) ?_ ?_)
  · rw [State.plug_setPlug]; rfl
  · rw [State.plug_setPlug]; intro hlc; cases hlc

theorem setSettingCommand_sessionInv {id : BitVec 16} {v : SettingArg} (hs : SessionInv s)
    (h : setSettingCommand u id v s = .next t) : SessionInv t := by
  refine pluginCommand_sessionInv hs (fun _ _ => ?_) h
  have hwrite : ∀ p : Plug, p.bound = (s.plug u).bound → p.lc = (s.plug u).lc → SessionInv (s.setPlug u p) :=
    fun p hb hl => hs.frame (sessionFrame_setPlug hb hl)
  split
  · exact hwrite _ rfl rfl
  · split
    · exact hwrite _ rfl rfl
    · split
      · exact hwrite _ rfl rfl
      · exact hwrite _ rfl rfl

/-- Whatever `END_SETTINGS` answers, the unit is in IDLE, bound as before, and no other unit has changed (R147). -/
theorem endSettingsBody_done (u : PluginUnit) (s : State) :
    ∃ r p st m, endSettingsBody u s = .done (r.setPlug u p) st m [] ∧ OnlyUnit u s r ∧
      p.bound = (s.plug u).bound ∧ p.lc = .idle := by
  have hclose := onlyUnit_setPlug s u (s.plug u).endBracket
  unfold endSettingsBody
  dsimp only
  generalize hd : (if (s.plug u).txnError = true then (s.setPlug u (s.plug u).endBracket, some Msg.settingRejected)
    else deriveUnit u (s.setPlug u (s.plug u).endBracket)) = derived
  have hderived : OnlyUnit u s derived.1 ∧ derived.1.plug u = (s.plug u).endBracket := by
    subst hd
    split
    · exact ⟨hclose, State.plug_setPlug ..⟩
    · exact ⟨hclose.trans (onlyUnit_deriveUnit u _), by rw [plug_deriveUnit, State.plug_setPlug]⟩
  obtain ⟨honly, hplug⟩ := hderived
  rw [hplug]
  split
  · exact ⟨_, _, _, _, rfl, honly, rfl, rfl⟩
  · exact ⟨_, _, _, _, rfl, honly, rfl, rfl⟩

theorem endSettingsCommand_sessionInv (hs : SessionInv s) (h : endSettingsCommand u s = .next t) : SessionInv t := by
  refine pluginCommand_sessionInv hs (fun hfree _ => ?_) h
  obtain ⟨r, p, st, m, hbody, honly, hbound, hlc⟩ := endSettingsBody_done u s
  rw [hbody]
  refine hs.frame ((honly.trans (onlyUnit_setPlug r u p)).sessionFrame (free_of_not_exempt hfree) ?_ ?_)
  · rw [State.plug_setPlug, hbound]
  · rw [State.plug_setPlug, hlc]; intro h; cases h

/-! `RELEASE` undoes a binding, if there is one, of a scheduler that is idle. -/

theorem onlyUnit_destroyUnitFlt (u : PluginUnit) (s : State) : OnlyUnit u s (s.destroyUnitFlt u) := by
  have hself : OnlyUnit u s s := ⟨fun _ _ => rfl, rfl, rfl⟩
  unfold State.destroyUnitFlt
  split
  · split
    · split
      · exact onlyUnit_setDecFlt ..
      · exact hself
    · exact hself
  · exact hself

theorem releaseBody_plug_of_ne {v : PluginUnit} (hv : v ≠ u) : (releaseBody u s).plug v = s.plug v := by
  rw [releaseBody, State.plug_setPlug_of_ne _ _ hv, ← (onlyUnit_destroyUnitFlt u s).plug hv]
  cases (s.plug u).bound <;> rfl

theorem releaseBody_plug : (releaseBody u s).plug u = (s.plug u).released := State.plug_setPlug ..

theorem releaseBody_txs :
    (releaseBody u s).txs = if (s.plug u).bound = .tx then { s.txs with enc := none } else s.txs := by
  rw [releaseBody, State.setPlug_txs, ← (onlyUnit_destroyUnitFlt u s).txs]
  cases (s.plug u).bound <;> rfl

theorem releaseBody_rxs :
    (releaseBody u s).rxs = if (s.plug u).bound = .rx then { s.rxs with dec := none } else s.rxs := by
  rw [releaseBody, State.setPlug_rxs, ← (onlyUnit_destroyUnitFlt u s).rxs]
  cases (s.plug u).bound <;> rfl

theorem releaseBody_decFlt {d : DecUnit} (hd : .dec d ≠ u) : (releaseBody u s).decFlt d = s.decFlt d := by
  rw [releaseBody, State.decFlt_setPlug, ← (onlyUnit_destroyUnitFlt u s).decFlt hd]
  cases (s.plug u).bound <;> rfl

/-- A unit that is not busy may go: where it was bound, its scheduler is idle and loses the binding with it (R148). -/
theorem releaseBody_sessionInv (hs : SessionInv s) (hfree : s.busy u = false) : SessionInv (releaseBody u s) := by
  have hdestroy := onlyUnit_destroyUnitFlt u s
  cases hbound : (s.plug u).bound with
  | unbound =>
    have honly : OnlyUnit u s (releaseBody u s) := by
      rw [releaseBody, hbound]; exact hdestroy.trans (onlyUnit_setPlug ..)
    refine hs.frame (honly.sessionFrame hfree ?_ fun _ => .inr hbound)
    rw [releaseBody_plug, hbound]; rfl
  | tx =>
    obtain ⟨e, rfl, he⟩ := hs.enc_of_bound hbound
    have hidle := hs.txIdle_of_free he hfree
    have htxs : (releaseBody (.enc e) s).txs = { s.txs with enc := none } := by rw [releaseBody_txs, if_pos hbound]
    refine hs.of_encoders (fun d => releaseBody_plug_of_ne nofun) (fun d => releaseBody_decFlt nofun)
      (by rw [releaseBody_rxs, hbound]; rfl) (fun e' => ?_) (fun e' _ => by rw [htxs]; nofun)
      fun h => absurd hidle (by rwa [htxs] at h)
    rw [htxs]
    by_cases hne : e' = e
    · rw [hne, releaseBody_plug]; rfl
    · rw [releaseBody_plug_of_ne fun h => hne (by injection h)]
      exact hs.bound_of_enc_ne fun h => hne (Option.some.inj (h.symm.trans he))
  | rx =>
    obtain ⟨d, rfl, hd⟩ := hs.dec_of_bound hbound
    have hidle := hs.rxIdle_of_free hd hfree
    have hrxs : (releaseBody (.dec d) s).rxs = { s.rxs with dec := none } := by rw [releaseBody_rxs, if_pos hbound]
    refine hs.of_decoders (fun e => releaseBody_plug_of_ne nofun) (by rw [releaseBody_txs, hbound]; rfl)
      (fun d' => ?_) (fun d' _ => by rw [hrxs]; nofun) fun h => absurd hidle (by rwa [hrxs] at h)
    rw [hrxs]
    by_cases hne : d' = d
    · rw [hne, releaseBody_plug]; rfl
    · rw [releaseBody_plug_of_ne fun h => hne (by injection h)]
      exact hs.bound_of_dec_ne fun h => hne (Option.some.inj (h.symm.trans hd))

theorem releaseCommand_sessionInv (hs : SessionInv s) (h : releaseCommand u s = .next t) : SessionInv t :=
  pluginCommand_sessionInv hs (body := .succeed (releaseBody u s) [])
    (fun hfree _ => releaseBody_sessionInv hs (free_of_not_exempt hfree)) h

/-! The other commands of a plugin unit. -/

theorem acceptedSettingsCommand_sessionInv (hs : SessionInv s) (h : acceptedSettingsCommand u s = .next t) :
    SessionInv t :=
  pluginCommand_sessionInv hs (body := .succeed s (acceptedSettings u)) (fun _ _ => hs) h

theorem getStatusCommand_sessionInv (hs : SessionInv s) (h : getStatusCommand u s = .next t) : SessionInv t :=
  pluginCommand_sessionInv hs (body := .succeed s [(s.plug u).statusBits]) (fun _ _ => hs) h

theorem initializeCommand_sessionInv {d : DecUnit} {n : BitVec 16} (hs : SessionInv s)
    (h : initializeCommand d n s = .next t) : SessionInv t := by
  refine pluginCommand_sessionInv hs (fun hfree _ => ?_) h
  split
  · trivial
  · cases hbody : initializeBody d n s with
    | refuse | fatal => trivial
    | done r st dt ws =>
      have hinit := initializeBody_done hbody
      refine hs.frame (hinit.only.sessionFrame (free_of_not_exempt hfree) ?_ ?_)
      · rw [hinit.plug]
      · rw [hinit.plug]; nofun

theorem parseCommand_sessionInv {d : DecUnit} {raw : List Sample} (hs : SessionInv s)
    (h : parseCommand d raw s = .next t) : SessionInv t := by
  refine pluginCommand_sessionInv hs (fun _ _ => ?_) h
  split
  · trivial
  · rename_i r k hparse
    exact hs.frame (decParse_sessionFrame hparse)

theorem terminateCommand_sessionInv {d : DecUnit} (hs : SessionInv s) (h : terminateCommand d s = .next t) :
    SessionInv t := by
  refine pluginCommand_sessionInv hs (fun hfree _ => ?_) h
  refine hs.frame ((onlyUnit_terminateBody d s).sessionFrame (free_of_not_exempt hfree) ?_ ?_)
  · rw [plug_terminateBody]
  · rw [plug_terminateBody]; nofun

theorem decFlt_setDout (s : State) (d e : DecUnit) (bs : List Byte) : (s.setDout d bs).decFlt e = s.decFlt e := by
  cases d <;> cases e <;> rfl

theorem readDecodedCommand_sessionInv {d : DecUnit} {m : BitVec 16} (hs : SessionInv s)
    (h : readDecodedCommand d m s = .next t) : SessionInv t := by
  refine pluginCommand_sessionInv hs (fun _ _ => ?_) h
  exact hs.frame (.of_same ⟨State.plug_setDout s d _, fun e => decFlt_setDout s d e _⟩ (State.setDout_txs ..)
    (State.setDout_rxs ..))

theorem readCaptureCommand_sessionInv {d : DecUnit} {m : BitVec 16} (hs : SessionInv s)
    (h : readCaptureCommand d m s = .next t) : SessionInv t := by
  refine pluginCommand_sessionInv hs (fun _ _ => ?_) h
  split
  · trivial
  · split
    · trivial
    · exact hs

theorem resetCommand_sessionInv {e : EncUnit} (hs : SessionInv s) (h : resetCommand e s = .next t) : SessionInv t := by
  refine pluginCommand_sessionInv hs (fun hfree _ => ?_) h
  split
  · trivial
  · refine hs.frame ((onlyUnit_resetBody e s).sessionFrame (free_of_not_exempt hfree) ?_ ?_)
    · rw [plug_resetBody]
    · rw [plug_resetBody]; nofun

theorem prepareCommand_sessionInv {e : EncUnit} {k : BitVec 16} (hs : SessionInv s)
    (h : prepareCommand e k s = .next t) : SessionInv t := by
  refine pluginCommand_sessionInv hs (fun _ _ => ?_) h
  split
  · trivial
  · rename_i out r hprep
    obtain ⟨hunits, htxs, hrxs⟩ := encPrepare_ok hprep
    exact hs.frame (.of_same hunits htxs hrxs)

theorem execPbLoad_sessionInv {format channels bits : BitVec 16} {data : List Byte} (hs : SessionInv s)
    (h : execPbLoad format channels bits data s = .next t) : SessionInv t := by
  refine pluginCommand_sessionInv hs (fun _ _ => ?_) h
  split
  · trivial
  · have hplug : SessionInv (s.setPlug (.enc .wav) { s.encWav.plug with ready := false }) :=
      hs.frame (sessionFrame_setPlug rfl rfl)
    refine hplug.frame (.of_same ⟨fun v => ?_, fun _ => rfl⟩ rfl rfl)
    rcases v with (_ | _ | _ | _) | (_ | _ | _ | _ | _) <;> rfl

/-! The commands of the filter. -/

/-- No session uses the filter of unit 0. -/
theorem sessionInv_flt (hs : SessionInv s) (f : Flt) : SessionInv { s with flt := f } :=
  hs.frame .of_same

theorem execFltCreate_sessionInv {n : BitVec 16} {a b : List Real32} (hs : SessionInv s)
    (h : execFltCreate n a b s = .next t) : SessionInv t := by
  refine blockCommand_sessionInv hs ?_ h
  split_ifs
  iterate 4 trivial
  split
  · trivial
  · exact sessionInv_flt hs _

theorem execFltSetDemod_sessionInv {mode : BitVec 16} {fw : Word} (hs : SessionInv s)
    (h : execFltSetDemod mode fw s = .next t) : SessionInv t := by
  refine blockCommand_sessionInv hs ?_ h
  split
  · trivial
  · split
    · trivial
    · exact sessionInv_flt hs _

theorem execFltSetCapture_sessionInv {count : Word} (hs : SessionInv s) (h : execFltSetCapture count s = .next t) :
    SessionInv t := by
  refine blockCommand_sessionInv hs ?_ h
  split
  · trivial
  · split
    · trivial
    · exact sessionInv_flt hs _

theorem execFltProcessChunk_sessionInv {offset : Sample} {raw : List Sample} (hs : SessionInv s)
    (h : execFltProcessChunk offset raw s = .next t) : SessionInv t := by
  refine blockCommand_sessionInv hs ?_ h
  split
  · trivial
  · split
    · trivial
    · exact sessionInv_flt hs _

theorem execFltReadOutput_sessionInv (hs : SessionInv s) (h : execFltReadOutput s = .next t) : SessionInv t := by
  refine blockCommand_sessionInv hs ?_ h
  split
  · trivial
  · split
    · trivial
    · exact hs

theorem execFltReadCapture_sessionInv {m : BitVec 16} (hs : SessionInv s) (h : execFltReadCapture m s = .next t) :
    SessionInv t := by
  refine blockCommand_sessionInv hs ?_ h
  split
  · trivial
  · exact hs

theorem execFltRelease_sessionInv (hs : SessionInv s) (h : execFltRelease s = .next t) : SessionInv t := by
  refine blockCommand_sessionInv hs ?_ h
  split
  · trivial
  · exact sessionInv_flt hs _

/-! The commands of the schedulers. -/

theorem setBound_plug_of_ne {v : PluginUnit} (b : Bound) (hv : v ≠ u) : (s.setBound u b).plug v = s.plug v :=
  State.plug_setPlug_of_ne _ _ hv

theorem setBound_plug (b : Bound) : (s.setBound u b).plug u = { s.plug u with bound := b } := State.plug_setPlug ..

/-- Binding never touches a lifecycle register. -/
theorem setBound_lc (b : Bound) (v : PluginUnit) : ((s.setBound u b).plug v).lc = (s.plug v).lc := by
  by_cases hv : v = u
  · rw [hv, setBound_plug]
  · rw [setBound_plug_of_ne b hv]

theorem unbindTx_cases (s : State) : s.txs.enc = none ∧ s.unbindTx = s ∨
    ∃ e, s.txs.enc = some e ∧ s.unbindTx = s.setBound (.enc e) .unbound := by
  unfold State.unbindTx
  cases s.txs.enc with
  | none => exact .inl ⟨rfl, rfl⟩
  | some e => exact .inr ⟨e, rfl, rfl⟩

theorem unbindTx_onlyUnit (s : State) : ∃ e, OnlyUnit (.enc e) s s.unbindTx := by
  rcases unbindTx_cases s with ⟨-, h⟩ | ⟨e, -, h⟩
  · rw [h]; exact ⟨.wave, fun _ _ => rfl, rfl, rfl⟩
  · rw [h]; exact ⟨e, onlyUnit_setPlug ..⟩

theorem unbindTx_lc (s : State) (v : PluginUnit) : (s.unbindTx.plug v).lc = (s.plug v).lc := by
  rcases unbindTx_cases s with ⟨-, h⟩ | ⟨e, -, h⟩ <;> rw [h]
  exact setBound_lc ..

theorem unbindTx_bound (hs : SessionInv s) (e : EncUnit) : (s.unbindTx.plug (.enc e)).bound = .unbound := by
  rcases unbindTx_cases s with ⟨hnone, h⟩ | ⟨e', hsome, h⟩ <;> rw [h]
  · exact hs.bound_of_enc_ne (by rw [hnone]; nofun)
  · by_cases he : e = e'
    · rw [he, setBound_plug]
    · rw [setBound_plug_of_ne _ fun h => he (by injection h)]
      exact hs.bound_of_enc_ne fun h => he (Option.some.inj (h.symm.trans hsome))

/-- Binding while the scheduler is idle: the old unit loses its binding, the new one gets it (R262). -/
theorem bindTx_sessionInv {e : EncUnit} (hs : SessionInv s) (hidle : s.txs.state = .idle)
    (halive : (s.plug (.enc e)).lc ≠ .absent) : SessionInv (bindTx e s) := by
  obtain ⟨old, honly⟩ := unbindTx_onlyUnit s
  have hbind : OnlyUnit (.enc e) s.unbindTx (s.unbindTx.setBound (.enc e) .tx) := onlyUnit_setPlug ..
  have hstate : (bindTx e s).txs.state = .idle := by
    rw [← hidle, ← honly.txs, ← hbind.txs]; rfl
  refine hs.of_encoders (fun d => (hbind.plug (v := .dec d) nofun).trans (honly.plug nofun))
    (fun d => (hbind.decFlt (d := d) nofun).trans (honly.decFlt nofun)) (hbind.rxs.trans honly.rxs)
    (fun e' => ?_) (fun e' hlc => ?_) fun h => absurd hstate h
  · change ((s.unbindTx.setBound (.enc e) .tx).plug (.enc e')).bound = if some e = some e' then _ else _
    by_cases he : e' = e
    · rw [he, setBound_plug, if_pos rfl]
    · rw [setBound_plug_of_ne _ fun h => he (by injection h), unbindTx_bound hs,
        if_neg fun h => he (Option.some.inj h).symm]
  · rintro ⟨⟩
    exact halive (((setBound_lc ..).trans (unbindTx_lc ..)).symm.trans hlc)

theorem unbindRx_cases (s : State) : s.rxs.dec = none ∧ s.unbindRx = s ∨
    ∃ d, s.rxs.dec = some d ∧ s.unbindRx = s.setBound (.dec d) .unbound := by
  unfold State.unbindRx
  cases s.rxs.dec with
  | none => exact .inl ⟨rfl, rfl⟩
  | some d => exact .inr ⟨d, rfl, rfl⟩

theorem unbindRx_onlyUnit (s : State) : ∃ d, OnlyUnit (.dec d) s s.unbindRx := by
  rcases unbindRx_cases s with ⟨-, h⟩ | ⟨d, -, h⟩
  · rw [h]; exact ⟨.raw, fun _ _ => rfl, rfl, rfl⟩
  · rw [h]; exact ⟨d, onlyUnit_setPlug ..⟩

theorem unbindRx_lc (s : State) (v : PluginUnit) : (s.unbindRx.plug v).lc = (s.plug v).lc := by
  rcases unbindRx_cases s with ⟨-, h⟩ | ⟨d, -, h⟩ <;> rw [h]
  exact setBound_lc ..

theorem unbindRx_bound (hs : SessionInv s) (d : DecUnit) : (s.unbindRx.plug (.dec d)).bound = .unbound := by
  rcases unbindRx_cases s with ⟨hnone, h⟩ | ⟨d', hsome, h⟩ <;> rw [h]
  · exact hs.bound_of_dec_ne (by rw [hnone]; nofun)
  · by_cases he : d = d'
    · rw [he, setBound_plug]
    · rw [setBound_plug_of_ne _ fun h => he (by injection h)]
      exact hs.bound_of_dec_ne fun h => he (Option.some.inj (h.symm.trans hsome))

/-- Binding while the scheduler is idle: the old unit loses its binding, the new one gets it (R263). -/
theorem bindRx_sessionInv {d : DecUnit} (hs : SessionInv s) (hidle : s.rxs.state = .idle)
    (halive : (s.plug (.dec d)).lc ≠ .absent) : SessionInv (bindRx d s) := by
  obtain ⟨old, honly⟩ := unbindRx_onlyUnit s
  have hbind : OnlyUnit (.dec d) s.unbindRx (s.unbindRx.setBound (.dec d) .rx) := onlyUnit_setPlug ..
  have hstate : (bindRx d s).rxs.state = .idle := by
    rw [← hidle, ← honly.rxs, ← hbind.rxs]; rfl
  refine hs.of_decoders (fun e => (hbind.plug (v := .enc e) nofun).trans (honly.plug nofun)) 
    (hbind.txs.trans honly.txs) (fun d' => ?_) (fun d' hlc => ?_) fun h => absurd hstate h
  · change ((s.unbindRx.setBound (.dec d) .rx).plug (.dec d')).bound = if some d = some d' then _ else _
    by_cases he : d' = d
    · rw [he, setBound_plug, if_pos rfl]
    · rw [setBound_plug_of_ne _ fun h => he (by injection h), unbindRx_bound hs,
        if_neg fun h => he (Option.some.inj h).symm]
  · rintro ⟨⟩
    exact halive (((setBound_lc ..).trans (unbindRx_lc ..)).symm.trans hlc)

theorem execTxBind_sessionInv {unit : BitVec 16} (hs : SessionInv s) (h : execTxBind unit s = .next t) :
    SessionInv t := by
  refine blockCommand_sessionInv hs ?_ h
  unfold txBindBody
  split
  · trivial
  · rename_i hidle
    split
    · trivial
    · split
      · trivial
      · split
        · trivial
        · split
          · trivial
          · rename_i halive
            exact bindTx_sessionInv hs (not_not.1 hidle) halive

theorem execRxBind_sessionInv {unit : BitVec 16} (hs : SessionInv s) (h : execRxBind unit s = .next t) :
    SessionInv t := by
  refine blockCommand_sessionInv hs ?_ h
  unfold rxBindBody
  split
  · trivial
  · rename_i hidle
    split
    · trivial
    · split
      · trivial
      · split
        · trivial
        · split
          · trivial
          · rename_i halive
            exact bindRx_sessionInv hs (not_not.1 hidle) halive

/-- A TX session begins with its encoder ACTIVE (R267). -/
theorem txBegin_sessionInv {e : EncUnit} {n : BitVec 16} (hs : SessionInv s) (he : s.txs.enc = some e) :
    SessionInv (txBegin n (resetBody e s)) := by
  have honly := onlyUnit_resetBody e s
  have henc : (txBegin n (resetBody e s)).txs.enc = s.txs.enc := (congrArg Txs.enc honly.txs :)
  have hplug : (txBegin n (resetBody e s)).plug (.enc e) = { s.plug (.enc e) with lc := .active } := plug_resetBody e s
  have hother : ∀ {e'}, e' ≠ e → (txBegin n (resetBody e s)).plug (.enc e') = s.plug (.enc e') :=
    fun hne => honly.plug fun h => hne (by injection h)
  refine hs.of_encoders (fun d => honly.plug nofun) (fun d => honly.decFlt nofun) honly.rxs (fun e' => ?_)
    (fun e' hlc => ?_) fun _ => ⟨e, henc.trans he, by rw [hplug]⟩
  · rw [henc, ← hs.txBound e']
    by_cases hne : e' = e
    · rw [hne, hplug]
    · rw [hother hne]
  · rw [henc]
    by_cases hne : e' = e
    · rw [hne, hplug] at hlc; cases hlc
    · rw [hother hne] at hlc; exact hs.enc_ne_of_absent hlc

/-- An RX session begins with its decoder ACTIVE and a filter of the session's chunk size (R281). -/
theorem rxBegin_sessionInv {d : DecUnit} {n : BitVec 16} {r : State} (hs : SessionInv s) (hd : s.rxs.dec = some d)
    (hinit : Initialised d n s r) : SessionInv (rxBegin n r) := by
  have hdec : (rxBegin n r).rxs.dec = s.rxs.dec := (congrArg Rxs.dec hinit.only.rxs :)
  have hplug : (rxBegin n r).plug (.dec d) = { s.plug (.dec d) with lc := .active } := hinit.plug
  have hother : ∀ {d'}, d' ≠ d → (rxBegin n r).plug (.dec d') = s.plug (.dec d') :=
    fun hne => hinit.only.plug fun h => hne (by injection h)
  refine hs.of_decoders (fun e => hinit.only.plug nofun) hinit.only.txs (fun d' => ?_) (fun d' hlc => ?_)
    fun _ => ⟨d, hdec.trans hd, by rw [hplug], hinit.flt⟩
  · rw [hdec, ← hs.rxBound d']
    by_cases hne : d' = d
    · rw [hne, hplug]
    · rw [hother hne]
  · rw [hdec]
    by_cases hne : d' = d
    · rw [hne, hplug] at hlc; cases hlc
    · rw [hother hne] at hlc; exact hs.dec_ne_of_absent hlc

theorem execTxStart_sessionInv {n : BitVec 16} (hs : SessionInv s) (h : execTxStart n s = .next t) : SessionInv t := by
  refine blockCommand_sessionInv hs ?_ h
  unfold txStartBody
  split
  · trivial
  · split
    · trivial
    · split
      · trivial
      · rename_i e he
        split_ifs
        iterate 3 trivial
        exact txBegin_sessionInv hs he

theorem execRxStart_sessionInv {n : BitVec 16} (hs : SessionInv s) (h : execRxStart n s = .next t) : SessionInv t := by
  refine blockCommand_sessionInv hs ?_ h
  unfold rxStartBody
  split
  · trivial
  · split
    · trivial
    · split
      · trivial
      · rename_i d hd
        split_ifs
        iterate 3 trivial
        split
        · rename_i hbody; exact rxBegin_sessionInv hs hd (initializeBody_done hbody)
        · trivial
        · trivial

theorem execTxStop_sessionInv (hs : SessionInv s) (h : execTxStop s = .next t) : SessionInv t := by
  unfold execTxStop at h
  split at h
  · exact blockCommand_sessionInv (body := .succeed s []) hs hs h
  · cases h; exact hs.frame (.of_tx id)

theorem execRxStop_sessionInv (hs : SessionInv s) (h : execRxStop s = .next t) : SessionInv t := by
  unfold execRxStop at h
  split at h
  · exact blockCommand_sessionInv (body := .succeed s []) hs hs h
  · cases h; exact hs.frame (.of_rx id)

/-- Whatever the instruction, bindings and sessions stay in agreement. -/
theorem exec_sessionInv {i : Instr} (hs : SessionInv s) (h : exec i s = .next t) : SessionInv t := by
  have hruns := exec_runs i s
  generalize exec i s = o at h hruns
  cases hruns with
  | create => exact createCommand_sessionInv hs h
  | acceptedSettings => exact acceptedSettingsCommand_sessionInv hs h
  | beginSettings => exact beginSettingsCommand_sessionInv hs h
  | setSetting => exact setSettingCommand_sessionInv hs h
  | endSettings => exact endSettingsCommand_sessionInv hs h
  | release => exact releaseCommand_sessionInv hs h
  | getStatus => exact getStatusCommand_sessionInv hs h
  | start => exact initializeCommand_sessionInv hs h
  | parse => exact parseCommand_sessionInv hs h
  | terminate => exact terminateCommand_sessionInv hs h
  | readDecoded => exact readDecodedCommand_sessionInv hs h
  | readCapture => exact readCaptureCommand_sessionInv hs h
  | reset => exact resetCommand_sessionInv hs h
  | prepare => exact prepareCommand_sessionInv hs h
  | pbLoad => exact execPbLoad_sessionInv hs h
  | fltCreate => exact execFltCreate_sessionInv hs h
  | fltSetDemod => exact execFltSetDemod_sessionInv hs h
  | fltSetCapture => exact execFltSetCapture_sessionInv hs h
  | fltProcessChunk => exact execFltProcessChunk_sessionInv hs h
  | fltReadOutput => exact execFltReadOutput_sessionInv hs h
  | fltReadCapture => exact execFltReadCapture_sessionInv hs h
  | fltRelease => exact execFltRelease_sessionInv hs h
  | txBind => exact execTxBind_sessionInv hs h
  | txStart => exact execTxStart_sessionInv hs h
  | txStop => exact execTxStop_sessionInv hs h
  | rxBind => exact execRxBind_sessionInv hs h
  | rxStart => exact execRxStart_sessionInv hs h
  | rxStop => exact execRxStop_sessionInv hs h
  | txStatus => exact blockCommand_sessionInv (body := .succeed s _) hs hs h
  | rxStatus => exact blockCommand_sessionInv (body := .succeed s _) hs hs h
  | sysStatus => cases h; exact hs.frame (sessionFrame_respond ..)
  | evTxSent | evRxCaptured | reqTxSend | reqRxCapture | reqRxAbort =>
    cases h; exact hs.frame .of_same

end Sys2Proof.Machine
end

section
/-! Bindings and sessions under the schedulers, the timers, TRANSPORT and the reset input, and so under every step. -/

namespace Sys2Proof.Machine

variable {s t : State}

/-! The steps of TXS (44_scheduler.md R266 to R274). -/

theorem sessionFrame_setTxState (x : TxState) (hrun : s.txs.state ≠ .idle) : SessionFrame s (s.setTxState x) :=
  .of_tx fun _ => hrun

theorem sessionFrame_setTxPhase (s : State) (x : TxPhase) : SessionFrame s (s.setTxPhase x) :=
  .of_tx id

theorem txFill_sessionFrame {j : Nat} (h : txFill j s = .filled t) : SessionFrame s t := by
  unfold txFill at h
  split at h
  · cases h
  · split at h
    · cases h
    · rename_i out r hprep
      obtain ⟨hunits, htxs, hrxs⟩ := encPrepare_ok hprep
      split at h
      · cases h
      · cases h; exact .of_same ⟨hunits.plug, hunits.flt⟩ htxs hrxs

theorem txPreloading_sessionFrame (hrun : s.txs.state ≠ .idle) (h : txPreloading s = .next t) : SessionFrame s t := by
  unfold txPreloading at h
  split at h
  · cases h; exact sessionFrame_setTxState _ hrun
  · split at h
    · cases h; exact sessionFrame_setTxState _ hrun
    · split at h
      · rename_i hfill
        cases h
        exact (txFill_sessionFrame hfill).trans (.of_tx id)
      · cases h; exact sessionFrame_raiseFatal ..
      · cases h

theorem txRunFill_sessionFrame (h : txRunFill s = .next t) : SessionFrame s t := by
  unfold txRunFill at h
  split at h
  · cases h; exact sessionFrame_setTxPhase ..
  · split at h
    · rename_i hfill
      cases h
      exact (txFill_sessionFrame hfill).trans (sessionFrame_setTxPhase ..)
    · cases h; exact sessionFrame_raiseFatal ..
    · cases h

theorem txConsume_sessionFrame (inWait : Bool) (ev : Word) (rest : List Word) (s : State) :
    SessionFrame s (txConsume inWait ev rest s) := by
  unfold txConsume
  dsimp only
  split
  · split
    · exact .of_same
    · exact .of_tx id
  · exact .of_same

/-- TXS in IDLE has no session to keep. -/
theorem txClose_sessionFrame (s : State) : SessionFrame s (txClose s) :=
  .of_tx fun h => absurd rfl h

theorem txWait_sessionFrame (s : State) : SessionFrame s (txWait s) := by
  unfold txWait
  split
  · exact sessionFrame_setTxPhase ..
  · split
    · exact .refl s
    · exact txConsume_sessionFrame ..

theorem txStopping_sessionFrame (s : State) : SessionFrame s (txStopping s) := by
  unfold txStopping
  split
  · exact txClose_sessionFrame s
  · split
    · exact .refl s
    · exact txConsume_sessionFrame ..

theorem Txs.hand_enc_state (x : Txs) (rate : Nat) : (x.hand rate).enc = x.enc ∧ (x.hand rate).state = x.state := by
  unfold Txs.hand
  dsimp only
  split <;> exact ⟨rfl, rfl⟩

theorem txHand_sessionFrame (e : EncUnit) (s : State) : SessionFrame s (txHand e s) := by
  obtain ⟨henc, hstate⟩ := s.txs.hand_enc_state ((s.plug (.enc e)).num idSamplingRate)
  exact .of_tx (fun h => hstate ▸ h) (enc := henc)

theorem txRunning_sessionFrame (hrun : s.txs.state ≠ .idle) (h : txRunning s = .next t) : SessionFrame s t := by
  unfold txRunning at h
  split at h
  · cases h
    split
    · exact sessionFrame_setTxState _ hrun
    · exact sessionFrame_setTxPhase ..
  · exact txRunFill_sessionFrame h
  · cases h; exact sessionFrame_setTxPhase ..
  · cases h; exact txWait_sessionFrame s
  · split at h
    · cases h; exact txHand_sessionFrame ..
    · cases h

theorem txsStep_sessionFrame (h : txsStep s = .next t) : SessionFrame s t := by
  unfold txsStep at h
  split at h
  · cases h; exact .refl s
  · cases hstate : s.txs.state <;> simp only [hstate] at h
    case idle => cases h; exact .refl s
    case preloading => exact txPreloading_sessionFrame (by rw [hstate]; nofun) h
    case armed =>
      have hrun : s.txs.state ≠ .idle := by rw [hstate]; nofun
      cases h
      split
      · exact sessionFrame_setTxState _ hrun
      · exact (sessionFrame_setTxState _ hrun).trans (sessionFrame_setTxPhase ..)
    case running => exact txRunning_sessionFrame (by rw [hstate]; nofun) h
    case stopping => cases h; exact txStopping_sessionFrame s

/-! The steps of RXS (44_scheduler.md R280 to R288). -/

theorem sessionFrame_setRxState (x : RxState) (hrun : s.rxs.state ≠ .idle) : SessionFrame s (s.setRxState x) :=
  .of_rx fun _ => hrun

theorem sessionFrame_setRxPhase (s : State) (x : RxPhase) : SessionFrame s (s.setRxPhase x) :=
  .of_rx id

theorem rxCheck_sessionFrame (hrun : s.rxs.state ≠ .idle) : SessionFrame s (rxCheck s) := by
  unfold rxCheck
  split
  · exact sessionFrame_setRxState _ hrun
  · split
    · exact sessionFrame_setRxPhase ..
    · split <;> exact sessionFrame_setRxPhase ..

theorem rxConsume_sessionFrame (ev : Word) (rest : List Word) (s : State) : SessionFrame s (rxConsume ev rest s) := by
  unfold rxConsume
  dsimp only
  split
  · split
    · exact .of_same
    · exact .of_rx id
  · exact .of_same

theorem rxWait_sessionFrame (s : State) : SessionFrame s (rxWait s) := by
  unfold rxWait
  split
  · exact .refl s
  · exact rxConsume_sessionFrame ..

theorem rxDispatch_sessionFrame (h : rxDispatch s = .next t) : SessionFrame s t := by
  unfold rxDispatch at h
  split at h
  · cases h
  · split at h
    · cases h; exact sessionFrame_raiseFatal ..
    · split at h
      · cases h; exact sessionFrame_raiseFatal ..
      · rename_i hparse
        cases h
        exact (decParse_sessionFrame hparse).trans (.of_rx id)

theorem rxRunning_sessionFrame (hrun : s.rxs.state ≠ .idle) (h : rxRunning s = .next t) : SessionFrame s t := by
  unfold rxRunning at h
  split at h
  · cases h; exact rxCheck_sessionFrame hrun
  · cases h; exact .of_rx id
  · cases h; exact rxWait_sessionFrame s
  · exact rxDispatch_sessionFrame h

theorem abortArmed_sessionFrame (s : State) : SessionFrame s s.abortArmed := by
  unfold State.abortArmed
  split
  · exact .of_same
  · exact .refl s

/-- The end of an RX session terminates its decoder, and RXS, in IDLE, has none to keep (R288, R290). -/
theorem rxClose_sessionInv (hs : SessionInv s) (h : rxClose s = .next t) : SessionInv t := by
  unfold rxClose at h
  split at h
  · cases h
  · rename_i d _
    have habort := hs.frame (abortArmed_sessionFrame s)
    have honly := onlyUnit_terminateBody d s.abortArmed
    have hplug := plug_terminateBody d s.abortArmed
    have hother : ∀ {d'}, d' ≠ d → (terminateBody d s.abortArmed).plug (.dec d') = s.abortArmed.plug (.dec d') :=
      fun hne => honly.plug fun h => hne (by injection h)
    have hdec : (terminateBody d s.abortArmed).rxs.dec = s.abortArmed.rxs.dec := congrArg Rxs.dec honly.rxs
    cases h
    refine habort.of_decoders (fun e => honly.plug nofun) honly.txs (fun d' => ?_) (fun d' hlc => ?_)
      fun h => absurd rfl h
    · change ((terminateBody d s.abortArmed).plug (.dec d')).bound =
        if (terminateBody d s.abortArmed).rxs.dec = some d' then _ else _
      rw [hdec, ← habort.rxBound d']
      by_cases hne : d' = d
      · rw [hne, hplug]
      · rw [hother hne]
    · change (terminateBody d s.abortArmed).rxs.dec ≠ some d'
      change ((terminateBody d s.abortArmed).plug (.dec d')).lc = _ at hlc
      rw [hdec]
      by_cases hne : d' = d
      · rw [hne, hplug] at hlc; cases hlc
      · rw [hother hne] at hlc; exact habort.dec_ne_of_absent hlc

theorem rxsStep_sessionInv (hs : SessionInv s) (h : rxsStep s = .next t) : SessionInv t := by
  unfold rxsStep at h
  split at h
  · cases h; exact hs
  · cases hstate : s.rxs.state <;> simp only [hstate] at h
    case idle => cases h; exact hs
    case armed =>
      have hrun : s.rxs.state ≠ .idle := by rw [hstate]; nofun
      cases h
      split
      · exact hs.frame (sessionFrame_setRxState _ hrun)
      · exact hs.frame ((sessionFrame_setRxState _ hrun).trans (sessionFrame_setRxPhase ..))
    case running => exact hs.frame (rxRunning_sessionFrame (by rw [hstate]; nofun) h)
    case stopping => exact rxClose_sessionInv hs h

/-! The timers (R287, R290). -/

theorem captureTimeoutStep_sessionFrame (s : State) : SessionFrame s (captureTimeoutStep s) := by
  unfold captureTimeoutStep
  split
  · refine (abortArmed_sessionFrame s).trans ?_
    unfold State.reclaimArmed
    split <;> exact .of_rx id
  · exact .refl s

theorem forceStop_sessionInv {d : Dir} (hs : SessionInv s) (h : forceStop s d = .next t) : SessionInv t := by
  cases d with
  | tx => cases h; exact hs.frame (.of_tx fun h => absurd rfl h)
  | rx =>
    have hforced : SessionInv { s with rxs := { s.rxs with forced := true } } := hs.frame (.of_rx id)
    exact rxClose_sessionInv hforced h

theorem joinExpiryStep_sessionInv (hs : SessionInv s) (h : joinExpiryStep s = .next t) : SessionInv t := by
  unfold joinExpiryStep at h
  split at h
  · cases h; exact hs
  · split at h
    · cases h; exact hs
    · split at h
      · cases h; exact hs
      · exact forceStop_sessionInv hs h

/-! HOST and TRANSPORT. -/

theorem completeStop_sessionFrame (d : Dir) (s : State) : SessionFrame s (completeStop d s) := by
  unfold completeStop
  split
  · exact .of_same
  · split
    · exact .of_same
    · exact .refl s

theorem illegalCommand_sessionFrame (s : State) : SessionFrame s (illegalCommand s) := by
  unfold illegalCommand
  split
  · exact sessionFrame_respond ..
  · exact sessionFrame_respond ..

theorem hostStep_sessionInv (hs : SessionInv s) (h : hostStep s = .next t) : SessionInv t := by
  have htake : ∀ rest, SessionInv { s with cmdIn := rest } := fun rest =>
    hs.frame .of_same
  unfold hostStep at h
  split at h
  · cases h; exact hs.frame (completeStop_sessionFrame ..)
  · split at h
    · exact exec_sessionInv (htake _) h
    · cases h; exact (htake _).frame (illegalCommand_sessionFrame _)
    · cases h; exact hs

theorem eventStep_sessionInv (hs : SessionInv s) (h : eventStep s = .next t) : SessionInv t := by
  have htake : ∀ rest, SessionInv { s with evIn := rest } := fun rest =>
    hs.frame .of_same
  unfold eventStep at h
  split at h
  · cases h; exact hs
  · split at h
    · exact exec_sessionInv (htake _) h
    · cases h; exact htake _

theorem requestStep_sessionInv (hs : SessionInv s) (h : requestStep s = .next t) : SessionInv t := by
  have htake : ∀ rest, SessionInv { s with evOut := rest } := fun rest =>
    hs.frame .of_same
  unfold requestStep at h
  split at h
  · cases h; exact hs
  · split at h
    · exact exec_sessionInv (htake _) h
    · cases h; exact htake _

theorem turnStep_sessionInv {turn : Turn} (hs : SessionInv s) (h : turnStep turn s = .next t) : SessionInv t := by
  cases turn with
  | host => exact hostStep_sessionInv hs h
  | txs => exact hs.frame (txsStep_sessionFrame h)
  | rxs => exact rxsStep_sessionInv hs h
  | captureTimeout => cases h; exact hs.frame (captureTimeoutStep_sessionFrame s)
  | joinExpiry => exact joinExpiryStep_sessionInv hs h
  | event => exact eventStep_sessionInv hs h
  | request => exact requestStep_sessionInv hs h

/-! An access to a pool, whether or not it is allowed, is no part of a binding or a session. -/

theorem transportRead_sessionFrame (s : State) (j i : Nat) : SessionFrame s (transportRead j i s) := by
  unfold transportRead; split <;> exact .of_same

theorem transportRxRead_sessionFrame (s : State) (j i : Nat) : SessionFrame s (transportRxRead j i s) := by
  unfold transportRxRead; split <;> exact .of_same

theorem transportWrite_sessionFrame (s : State) (j i : Nat) (v : Sample) : SessionFrame s (transportWrite j i v s) := by
  unfold transportWrite; split <;> exact .of_same

theorem transportTxWrite_sessionFrame (s : State) (j i : Nat) (v : Sample) : SessionFrame s (transportTxWrite j i v s) := by
  unfold transportTxWrite; split <;> exact .of_same

theorem resetInput_sessionInv (s : State) : SessionInv s.resetInput :=
  sessionInv_reset.frame .of_same

theorem moveStep_sessionInv {m : Move} (hs : SessionInv s) (h : moveStep m s = .next t) : SessionInv t := by
  cases m with
  | turn turn => exact turnStep_sessionInv hs h
  | txRead j i => cases h; exact hs.frame (transportRead_sessionFrame s j i)
  | rxWrite j i v => cases h; exact hs.frame (transportWrite_sessionFrame s j i v)
  | txWrite j i v => cases h; exact hs.frame (transportTxWrite_sessionFrame s j i v)
  | rxRead j i => cases h; exact hs.frame (transportRxRead_sessionFrame s j i)
  | txBusy | rxBusy => cases h; exact hs.frame .of_same
  | rst => cases h; exact resetInput_sessionInv s

/-- Settles O15: each move keeps the agreement (`moveStep_sessionInv`), and the end of a move changes the agenda only. -/
theorem everyStepKeepsBindingsAndSessions : Obligations.EveryStepKeepsBindingsAndSessions := by
  intro s t hs h
  obtain ⟨r, hmove, rfl⟩ := step_eq_next h
  exact (moveStep_sessionInv hs hmove).frame .of_same

end Sys2Proof.Machine
end

section
/-! What HOST's commands can do to the state, said once: the effects that the meanings of all commands are made of, so that
an invariant is proved kept by a case for each effect and not for each command. -/

namespace Sys2Proof.Machine

/-- What a command has made of the state before its answer. Where a rule's conditions decide whether an invariant is kept,
the effect carries them. -/
inductive CommandEffect (s : State) : State → Prop where
  | keep : CommandEffect s s
  | setPlug (u : PluginUnit) (p : Plug) : CommandEffect s (s.setPlug u p)
  | create (u : PluginUnit) : CommandEffect s (createBody u s)
  | derive (u : PluginUnit) (p q : Plug) : CommandEffect s ((deriveUnit u (s.setPlug u p)).1.setPlug u q)
  | release (u : PluginUnit) (free : s.busy u = false) : CommandEffect s (releaseBody u s)
  | initialise {d : DecUnit} {n : BitVec 16} {t : State} {st : Status} {detail : BitVec 8} {ws : List Word}
      (body : initializeBody d n s = .done t st detail ws) : CommandEffect s t
  | parse {d : DecUnit} {raw : List Sample} {t : State} {k : Nat} (body : decParse d raw s = .ok (t, k)) : CommandEffect s t
  | terminate (d : DecUnit) : CommandEffect s (terminateBody d s)
  | setDout (d : DecUnit) (bs : List Byte) : CommandEffect s (s.setDout d bs)
  | reset (e : EncUnit) : CommandEffect s (resetBody e s)
  | generate (e : EncUnit) (k : Nat) : CommandEffect s (encSamples e k s).2
  | pbLoad (u : EncWav) (data : List Byte) (lvl0 : u.lvl0 = s.encWav.lvl0) :
      CommandEffect s { s with encWav := u, pbm := Memory.writeFrom s.pbm 0 data }
  | filter (f : Flt) (cap : Memory.wf s.flt.cap → Memory.wf f.cap) : CommandEffect s { s with flt := f }
  | bindTx (e : EncUnit) (idle : s.txs.state = .idle) : CommandEffect s (bindTx e s)
  | bindRx (d : DecUnit) (idle : s.rxs.state = .idle) : CommandEffect s (bindRx d s)
  | txBegin (n : BitVec 16) (e : EncUnit) (idle : s.txs.state = .idle) (length : n ≠ 0) (bound : s.txs.enc = some e)
      (quiet : s.txBusy = false) : CommandEffect s (txBegin n (resetBody e s))
  | rxBegin (n : BitVec 16) (d : DecUnit) {r : State} {st : Status} {detail : BitVec 8} {ws : List Word}
      (idle : s.rxs.state = .idle) (length : n ≠ 0) (bound : s.rxs.dec = some d)
      (body : initializeBody d n s = .done r st detail ws) : CommandEffect s (rxBegin n r)
  | txStop : CommandEffect s { s with txs := { s.txs with stopReq := true } }
  | rxStop : CommandEffect s { s with rxs := { s.rxs with stopReq := true } }

/-- From `s` to `t` at most the words on HOST's port, a withheld stop and the halt latch have changed. -/
def Answers (s t : State) : Prop :=
  ∃ rsp cmdIn stopWait halted fatalCode,
    t = { s with rsp := rsp, cmdIn := cmdIn, stopWait := stopWait, halted := halted, fatalCode := fatalCode }

theorem Answers.refl (s : State) : Answers s s := ⟨_, _, _, _, _, rfl⟩

theorem answers_respond (s : State) (st : Status) (detail : BitVec 8) (ws : List Word) :
    Answers s (s.respond st detail ws) := ⟨_, _, _, _, _, rfl⟩

theorem answers_failFatal (s : State) (c : FatalCode) : Answers s (s.failFatal c) := ⟨_, _, _, _, _, rfl⟩

/-- The outcome is a next state, reached by one effect and an answer. -/
def EndsInEffect (s : State) (o : Host.Outcome State Fault Refusal) : Prop :=
  ∃ r t, o = .next t ∧ CommandEffect s r ∧ Answers r t

theorem blockCommand_effect {s : State} {body : CmdResult} (hbody : body.DoneIn (CommandEffect s)) :
    EndsInEffect s (blockCommand s body) := by
  rcases blockCommand_cases s body with ⟨-, e⟩ | ⟨-, r, st, d, ws, rfl, e⟩ | ⟨-, st, d, rfl, e⟩ | ⟨-, c, rfl, e⟩
  · exact ⟨s, _, e, .keep, answers_respond ..⟩
  · exact ⟨r, _, e, hbody, answers_respond ..⟩
  · exact ⟨s, _, e, .keep, answers_respond ..⟩
  · exact ⟨s, _, e, .keep, answers_failFatal ..⟩

theorem pluginCommand_effect {u : PluginUnit} {exempt : Bool} {legal : Lc → Bool} {s : State} {body : CmdResult}
    (hbody : exempt = true ∨ s.busy u = false → body.DoneIn (CommandEffect s)) :
    EndsInEffect s (pluginCommand u exempt legal s body) := by
  have hrefuse : ∀ st d, pluginCommand u exempt legal s body = .next (s.refusePlugin u st d) →
      EndsInEffect s (pluginCommand u exempt legal s body) := fun st d e =>
    ⟨_, _, e, .setPlug u ((s.plug u).noteRefusal st), answers_respond ..⟩
  rcases pluginCommand_cases u exempt legal s body with ⟨-, e⟩ | ⟨-, -, -, e⟩ | ⟨-, -, -, e⟩ |
    ⟨-, hfree, -, ⟨r, st, d, ws, rfl, e⟩ | ⟨st, d, rfl, e⟩ | ⟨c, rfl, e⟩⟩
  · exact ⟨s, _, e, .keep, answers_respond ..⟩
  · exact hrefuse _ _ e
  · exact hrefuse _ _ e
  · exact ⟨r, _, e, hbody hfree, answers_respond ..⟩
  · exact hrefuse _ _ e
  · exact ⟨s, _, e, .keep, answers_failFatal ..⟩

/-! The commands of a plugin unit. -/

section PluginCommands

variable (u : PluginUnit) (d : DecUnit) (e : EncUnit) (s : State)

theorem createCommand_effect : EndsInEffect s (createCommand u s) :=
  pluginCommand_effect (body := .succeed _ _) fun _ => .create u

theorem acceptedSettingsCommand_effect : EndsInEffect s (acceptedSettingsCommand u s) :=
  pluginCommand_effect (body := .succeed _ _) fun _ => .keep

theorem beginSettingsCommand_effect : EndsInEffect s (beginSettingsCommand u s) :=
  pluginCommand_effect (body := .succeed _ _) fun _ => .setPlug u _

theorem setSettingCommand_effect (id : BitVec 16) (v : SettingArg) : EndsInEffect s (setSettingCommand u id v s) := by
  refine pluginCommand_effect fun _ => ?_
  split
  · exact .setPlug u _
  · split
    · exact .setPlug u _
    · split <;> exact .setPlug u _

/-- `END_SETTINGS` derives, unless a setting was rejected, between two writes of the plugin registers (R147). -/
theorem endSettingsCommand_effect : EndsInEffect s (endSettingsCommand u s) := by
  refine pluginCommand_effect fun _ => ?_
  unfold endSettingsBody
  dsimp only
  split_ifs
  · change CommandEffect s ((s.setPlug u _).setPlug u _)
    rw [State.setPlug_setPlug]
    exact .setPlug u _
  · split
    · exact .derive u _ _
    · exact .derive u _ _

theorem releaseCommand_effect : EndsInEffect s (releaseCommand u s) :=
  pluginCommand_effect (body := .succeed _ _) fun hfree => .release u (free_of_not_exempt hfree)

theorem getStatusCommand_effect : EndsInEffect s (getStatusCommand u s) :=
  pluginCommand_effect (body := .succeed _ _) fun _ => .keep

theorem initializeCommand_effect (n : BitVec 16) : EndsInEffect s (initializeCommand d n s) := by
  refine pluginCommand_effect fun _ => ?_
  split
  · trivial
  · cases hbody : initializeBody d n s with
    | refuse | fatal => trivial
    | done => exact .initialise hbody

theorem parseCommand_effect (raw : List Sample) : EndsInEffect s (parseCommand d raw s) := by
  refine pluginCommand_effect fun _ => ?_
  split
  · trivial
  · rename_i hparse
    exact .parse hparse

theorem terminateCommand_effect : EndsInEffect s (terminateCommand d s) :=
  pluginCommand_effect (body := .succeed _ _) fun _ => .terminate d

theorem readDecodedCommand_effect (m : BitVec 16) : EndsInEffect s (readDecodedCommand d m s) :=
  pluginCommand_effect (body := .succeed _ _) fun _ => .setDout d _

theorem readCaptureCommand_effect (m : BitVec 16) : EndsInEffect s (readCaptureCommand d m s) := by
  refine pluginCommand_effect fun _ => ?_
  split
  · trivial
  · split
    · trivial
    · exact .keep

theorem resetCommand_effect : EndsInEffect s (resetCommand e s) := by
  refine pluginCommand_effect fun _ => ?_
  split
  · trivial
  · exact .reset e

theorem prepareCommand_effect (k : BitVec 16) : EndsInEffect s (prepareCommand e k s) := by
  refine pluginCommand_effect fun _ => ?_
  by_cases hk : k.toNat ≤ Params.plcphy.chunkMax
  · rw [encPrepare_of_le hk]
    exact .generate e k.toNat
  · rw [encPrepare, if_pos (Nat.lt_of_not_le hk)]
    trivial

theorem execPbLoad_effect (format channels bits : BitVec 16) (data : List Byte) :
    EndsInEffect s (execPbLoad format channels bits data s) := by
  refine pluginCommand_effect fun _ => ?_
  split
  · trivial
  · exact .pbLoad _ data rfl

end PluginCommands

/-! The commands of the filter. -/

section FilterCommands

variable (s : State)

theorem fltCreate_cap {n : BitVec 16} {a b : List REAL} {f : Flt} (h : fltCreate n a b = .ok f) : f.cap = [] := by
  obtain ⟨-, -, -, -, -, -, -, -, -, -, -, -, hcap⟩ := fltCreate_ok h
  exact hcap

theorem Flt.processChunk_wf {f g : Flt} {raw : List Sample} {offset : Sample} (h : f.processChunk raw offset = .ok g) :
    Memory.wf f.cap → Memory.wf g.cap := by
  obtain ⟨-, xb, yb, phase, cap, rem, rfl, hcap⟩ := Flt.processChunk_ok h
  exact hcap

theorem execFltCreate_effect (n : BitVec 16) (a b : List Real32) : EndsInEffect s (execFltCreate n a b s) := by
  refine blockCommand_effect ?_
  split_ifs
  iterate 4 trivial
  split
  · trivial
  · rename_i f hf
    exact .filter f fun _ => by rw [fltCreate_cap hf]; exact Memory.wf_nil

theorem execFltSetDemod_effect (mode : BitVec 16) (fw : Word) : EndsInEffect s (execFltSetDemod mode fw s) := by
  refine blockCommand_effect ?_
  split
  · trivial
  · split
    · trivial
    · exact .filter _ id

theorem execFltSetCapture_effect (count : Word) : EndsInEffect s (execFltSetCapture count s) := by
  refine blockCommand_effect ?_
  split
  · trivial
  · split
    · trivial
    · exact .filter _ fun _ => Memory.wf_nil

theorem execFltProcessChunk_effect (offset : Sample) (raw : List Sample) :
    EndsInEffect s (execFltProcessChunk offset raw s) := by
  refine blockCommand_effect ?_
  split
  · trivial
  · split
    · trivial
    · rename_i f hf
      exact .filter f (Flt.processChunk_wf hf)

theorem execFltReadOutput_effect : EndsInEffect s (execFltReadOutput s) := by
  refine blockCommand_effect ?_
  split
  · trivial
  · split
    · trivial
    · exact .keep

theorem execFltReadCapture_effect (m : BitVec 16) : EndsInEffect s (execFltReadCapture m s) := by
  refine blockCommand_effect ?_
  split
  · trivial
  · exact .keep

theorem execFltRelease_effect : EndsInEffect s (execFltRelease s) := by
  refine blockCommand_effect ?_
  split
  · trivial
  · exact .filter _ id

end FilterCommands

/-! The commands of the schedulers and the system. -/

section SchedulerCommands

variable (s : State)

theorem execTxBind_effect (unit : BitVec 16) : EndsInEffect s (execTxBind unit s) := by
  refine blockCommand_effect ?_
  unfold txBindBody
  split
  · trivial
  · rename_i hidle
    split
    · trivial
    · split
      · trivial
      · split
        · trivial
        · split
          · trivial
          · exact .bindTx _ (not_not.1 hidle)

theorem execRxBind_effect (unit : BitVec 16) : EndsInEffect s (execRxBind unit s) := by
  refine blockCommand_effect ?_
  unfold rxBindBody
  split
  · trivial
  · rename_i hidle
    split
    · trivial
    · split
      · trivial
      · split
        · trivial
        · split
          · trivial
          · exact .bindRx _ (not_not.1 hidle)

theorem execTxStart_effect (n : BitVec 16) : EndsInEffect s (execTxStart n s) := by
  refine blockCommand_effect ?_
  unfold txStartBody
  split
  · trivial
  · rename_i hidle
    split
    · trivial
    · rename_i hn
      split
      · trivial
      · rename_i e he
        split_ifs with hlc hready hbusy
        iterate 3 trivial
        exact .txBegin n e (not_not.1 hidle) hn he (Bool.eq_false_iff.2 hbusy)

theorem execRxStart_effect (n : BitVec 16) : EndsInEffect s (execRxStart n s) := by
  refine blockCommand_effect ?_
  unfold rxStartBody
  split
  · trivial
  · rename_i hidle
    split
    · trivial
    · rename_i hn
      split
      · trivial
      · rename_i d hd
        split_ifs
        iterate 3 trivial
        cases hbody : initializeBody d n s with
        | refuse | fatal => trivial
        | done => exact .rxBegin n d (not_not.1 hidle) hn hd hbody

theorem execTxStop_effect : EndsInEffect s (execTxStop s) := by
  unfold execTxStop
  split
  · exact blockCommand_effect (body := .succeed _ _) .keep
  · exact ⟨_, _, rfl, .txStop, _, _, _, _, _, rfl⟩

theorem execRxStop_effect : EndsInEffect s (execRxStop s) := by
  unfold execRxStop
  split
  · exact blockCommand_effect (body := .succeed _ _) .keep
  · exact ⟨_, _, rfl, .rxStop, _, _, _, _, _, rfl⟩

theorem execTxStatus_effect : EndsInEffect s (execTxStatus s) :=
  blockCommand_effect (body := .succeed _ _) .keep

theorem execRxStatus_effect : EndsInEffect s (execRxStatus s) :=
  blockCommand_effect (body := .succeed _ _) .keep

theorem execSysStatus_effect : EndsInEffect s (execSysStatus s) :=
  ⟨_, _, rfl, .keep, answers_respond ..⟩

end SchedulerCommands

/-- Whatever the command, it ends in a next state, by one effect and an answer. -/
theorem exec_effect {i : Instr} (hi : i.isCommand = true) (s : State) : EndsInEffect s (exec i s) := by
  cases i with
  | createDecOok | createDecPwm | createDecMorse | createDecRaw | createEncWave | createEncWav | createEncOok
  | createEncPwm | createEncMorse => exact createCommand_effect ..
  | getAcceptedSettingsDecOok | getAcceptedSettingsDecPwm | getAcceptedSettingsDecMorse | getAcceptedSettingsDecRaw
  | getAcceptedSettingsEncWave | getAcceptedSettingsEncWav | getAcceptedSettingsEncOok | getAcceptedSettingsEncPwm
  | getAcceptedSettingsEncMorse => exact acceptedSettingsCommand_effect ..
  | beginSettingsDecOok | beginSettingsDecPwm | beginSettingsDecMorse | beginSettingsDecRaw | beginSettingsEncWave
  | beginSettingsEncWav | beginSettingsEncOok | beginSettingsEncPwm | beginSettingsEncMorse =>
    exact beginSettingsCommand_effect ..
  | setSettingDecOok id v | setSettingDecPwm id v | setSettingDecMorse id v | setSettingDecRaw id v
  | setSettingEncWave id v | setSettingEncWav id v | setSettingEncOok id v | setSettingEncPwm id v
  | setSettingEncMorse id v => exact setSettingCommand_effect _ s id v
  | endSettingsDecOok | endSettingsDecPwm | endSettingsDecMorse | endSettingsDecRaw | endSettingsEncWave
  | endSettingsEncWav | endSettingsEncOok | endSettingsEncPwm | endSettingsEncMorse =>
    exact endSettingsCommand_effect ..
  | releaseDecOok | releaseDecPwm | releaseDecMorse | releaseDecRaw | releaseEncWave | releaseEncWav | releaseEncOok
  | releaseEncPwm | releaseEncMorse => exact releaseCommand_effect ..
  | getStatusDecOok | getStatusDecPwm | getStatusDecMorse | getStatusDecRaw | getStatusEncWave | getStatusEncWav
  | getStatusEncOok | getStatusEncPwm | getStatusEncMorse => exact getStatusCommand_effect ..
  | initializeDecOok | initializeDecPwm | initializeDecMorse | initializeDecRaw => exact initializeCommand_effect ..
  | parseNextSamplesDecOok raw | parseNextSamplesDecPwm raw | parseNextSamplesDecMorse raw
  | parseNextSamplesDecRaw raw => exact parseCommand_effect _ s raw
  | terminateDecOok | terminateDecPwm | terminateDecMorse | terminateDecRaw => exact terminateCommand_effect ..
  | readDecodedDecOok | readDecodedDecPwm | readDecodedDecMorse | readDecodedDecRaw =>
    exact readDecodedCommand_effect ..
  | readCaptureDecOok | readCaptureDecPwm | readCaptureDecMorse => exact readCaptureCommand_effect ..
  | resetEncWave | resetEncWav | resetEncOok | resetEncPwm | resetEncMorse => exact resetCommand_effect ..
  | prepareNextSamplesEncWave | prepareNextSamplesEncWav | prepareNextSamplesEncOok | prepareNextSamplesEncPwm
  | prepareNextSamplesEncMorse => exact prepareCommand_effect ..
  | pbLoad => exact execPbLoad_effect ..
  | fltCreate => exact execFltCreate_effect ..
  | fltSetDemod => exact execFltSetDemod_effect ..
  | fltSetCapture => exact execFltSetCapture_effect ..
  | fltProcessChunk => exact execFltProcessChunk_effect ..
  | fltReadOutput => exact execFltReadOutput_effect ..
  | fltReadCapture => exact execFltReadCapture_effect ..
  | fltRelease => exact execFltRelease_effect ..
  | txBind => exact execTxBind_effect ..
  | txStart => exact execTxStart_effect ..
  | txStop => exact execTxStop_effect ..
  | txStatus => exact execTxStatus_effect ..
  | rxBind => exact execRxBind_effect ..
  | rxStart => exact execRxStart_effect ..
  | rxStop => exact execRxStop_effect ..
  | rxStatus => exact execRxStatus_effect ..
  | sysStatus => exact execSysStatus_effect ..
  | evTxSent | evRxCaptured | reqTxSend | reqRxCapture | reqRxAbort => cases hi

/-! What the command port decodes to. -/

/-- No row of the command table makes a word of the event port (R93, R102). -/
theorem opTable_isCommand : ∀ row ∈ opTable, ∀ arg ws, (row.shape.read arg ws).isCommand = true := by
  simp only [opTable, lifecycleRowsA, lifecycleRowsB, decoderRows, encoderRows, systemRows, List.forall_mem_append,
    List.forall_mem_cons]
  simp [Shape.read, Instr.isCommand, Instr.view]

theorem decode_isCommand {ws rest : List Word} {i : Instr} (h : decode ws = .instr i rest) : i.isCommand = true := by
  unfold decode at h
  split at h
  · cases h
  · split at h
    · cases h
    · rename_i sh hshape
      obtain ⟨row, hrow, rfl⟩ := Option.map_eq_some_iff.1 hshape
      split at h
      · cases h
        exact opTable_isCommand row (List.mem_of_find?_eq_some hrow) _ _
      · cases h

/-- HOST's turn is a next state: an answer, an effect of a command, and an answer. -/
theorem hostStep_effect (s : State) :
    ∃ r q t, hostStep s = .next t ∧ Answers s r ∧ CommandEffect r q ∧ Answers q t := by
  have hanswers : ∀ {t}, hostStep s = .next t → Answers s t →
      ∃ r q t, hostStep s = .next t ∧ Answers s r ∧ CommandEffect r q ∧ Answers q t :=
    fun {t} h ha => ⟨t, t, t, h, ha, .keep, .refl t⟩
  cases hstop : s.stopWait with
  | some d =>
    refine hanswers (t := completeStop d s) (by simp [hostStep, hstop]) ?_
    unfold completeStop
    split
    · exact ⟨_, _, _, _, _, rfl⟩
    · split
      · exact ⟨_, _, _, _, _, rfl⟩
      · exact .refl s
  | none =>
    cases hdec : decode s.cmdIn with
    | incomplete => exact hanswers (t := s) (by simp [hostStep, hstop, hdec]) (.refl s)
    | illegal rest =>
      refine hanswers (t := illegalCommand { s with cmdIn := rest }) (by simp [hostStep, hstop, hdec]) ?_
      unfold illegalCommand
      split <;> exact ⟨_, _, _, _, _, rfl⟩
    | instr i rest =>
      rw [hostStep_of_decode hstop hdec]
      obtain ⟨q, t, h, heff, hans⟩ := exec_effect (decode_isCommand hdec) { s with cmdIn := rest }
      exact ⟨_, q, t, h, ⟨_, _, _, _, _, rfl⟩, heff, hans⟩

end Sys2Proof.Machine
end

section
/-! What the schedulers, the timers and TRANSPORT can do to the state, said once (44_scheduler.md R266 to R290), and with the
commands everything a move can do. -/

namespace Sys2Proof.Machine

/-! The steps of TXS. -/

/-- TXS after the event that buffer `j` is sent: its own again, and in WAIT no longer filled (R272, R274). -/
def txSent (inWait : Bool) (j : Nat) (rest : List Word) (s : State) : State :=
  { s with txQueue := rest, txs := { s.txs with inflight := none }, txPool := setOwner s.txPool j .sched,
           txFilled := if inWait then s.txFilled.set j false else s.txFilled }

/-- What a step of TXS does, with the state and phase it is taken in (R266 to R274). -/
inductive TxEffect (s : State) : State → Prop where
  | stay : TxEffect s s
  | stop (session : s.txs.state ≠ .idle) (before : s.txs.state ≠ .stopping) : TxEffect s (s.setTxState .stopping)
  | arm (state : s.txs.state = .preloading) : TxEffect s (s.setTxState .armed)
  | run (state : s.txs.state = .armed) : TxEffect s ((s.setTxState .running).setTxPhase .check)
  | check (state : s.txs.state = .running) : TxEffect s (s.setTxPhase .fill)
  | skip (state : s.txs.state = .running) (filled : s.txFilled.getD s.txs.fillIdx false = true) :
      TxEffect s (s.setTxPhase .pace)
  | pace (state : s.txs.state = .running) (phase : s.txs.phase = .pace) : TxEffect s (s.setTxPhase .wait)
  | proceed (state : s.txs.state = .running) (phase : s.txs.phase = .wait) (free : s.txs.inflight = none) :
      TxEffect s (s.setTxPhase .hand)
  | preload {t : State} (state : s.txs.state = .preloading) (fill : txFill s.txs.fillIdx s = .filled t) :
      TxEffect s { t with txs := { t.txs with fillIdx := nextBuf Config.txPool t.txs.fillIdx } }
  | fill {t : State} (state : s.txs.state = .running) (phase : s.txs.phase = .fill)
      (fill : txFill s.txs.fillIdx s = .filled t) : TxEffect s (t.setTxPhase .pace)
  | fatal {c : FatalCode} (state : s.txs.state = .preloading ∨ s.txs.state = .running)
      (fill : txFill s.txs.fillIdx s = .fatal c) : TxEffect s (s.raiseFatal c)
  | ignore {j : Nat} {ev : Word} {rest : List Word} (inflight : s.txs.inflight = some j) (queue : s.txQueue = ev :: rest)
      (other : ev.unit.toNat ≠ j) : TxEffect s { s with txQueue := rest }
  | badCount {j : Nat} {ev : Word} {rest : List Word} (inflight : s.txs.inflight = some j)
      (queue : s.txQueue = ev :: rest) (same : ev.unit.toNat = j) (count : ev.arg ≠ s.txs.n) :
      TxEffect s (State.raiseFatal { s with txQueue := rest } .count)
  | sent (inWait : Bool) {j : Nat} {ev : Word} {rest : List Word} (inflight : s.txs.inflight = some j)
      (queue : s.txQueue = ev :: rest)
      (state : if inWait then s.txs.state = .running ∧ s.txs.phase = .wait else s.txs.state = .stopping) :
      TxEffect s (txSent inWait j rest s)
  | hand (e : EncUnit) (state : s.txs.state = .running) (phase : s.txs.phase = .hand) (bound : s.txs.enc = some e) :
      TxEffect s (txHand e s)
  | close (state : s.txs.state = .stopping) (free : s.txs.inflight = none) : TxEffect s (txClose s)

/-- A step of TXS has one of these effects, or a session has no encoder bound and the model stops (log entry 18). -/
def TxEnds (s : State) (o : Host.Outcome State Fault Refusal) : Prop :=
  (∃ t, o = .next t ∧ TxEffect s t) ∨ (s.txs.state ≠ .idle ∧ s.txs.enc = none ∧ o = .fault .unbound)

theorem txFill_unbound {j : Nat} {s : State} (h : txFill j s = .unbound) : s.txs.enc = none := by
  unfold txFill at h
  split at h
  · assumption
  · split at h
    · cases h
    · split at h <;> cases h

variable {s t : State}

theorem txPreloading_effect (hstate : s.txs.state = .preloading) : TxEnds s (txPreloading s) := by
  have hsession : s.txs.state ≠ .idle := by rw [hstate]; nofun
  unfold txPreloading
  split
  · exact .inl ⟨_, rfl, .stop hsession (by rw [hstate]; nofun)⟩
  · split
    · exact .inl ⟨_, rfl, .arm hstate⟩
    · cases hfill : txFill s.txs.fillIdx s with
      | filled t => exact .inl ⟨_, rfl, .preload hstate hfill⟩
      | fatal c => exact .inl ⟨_, rfl, .fatal (.inl hstate) hfill⟩
      | unbound => exact .inr ⟨hsession, txFill_unbound hfill, rfl⟩

theorem txRunFill_effect (hstate : s.txs.state = .running) (hphase : s.txs.phase = .fill) : TxEnds s (txRunFill s) := by
  unfold txRunFill
  split
  · rename_i hfilled
    exact .inl ⟨_, rfl, .skip hstate hfilled⟩
  · cases hfill : txFill s.txs.fillIdx s with
    | filled t => exact .inl ⟨_, rfl, .fill hstate hphase hfill⟩
    | fatal c => exact .inl ⟨_, rfl, .fatal (.inr hstate) hfill⟩
    | unbound => exact .inr ⟨by rw [hstate]; nofun, txFill_unbound hfill, rfl⟩

theorem txConsume_effect {inWait : Bool} {j : Nat} {ev : Word} {rest : List Word} (hinflight : s.txs.inflight = some j)
    (hqueue : s.txQueue = ev :: rest)
    (hstate : if inWait then s.txs.state = .running ∧ s.txs.phase = .wait else s.txs.state = .stopping) :
    TxEffect s (txConsume inWait ev rest s) := by
  unfold txConsume
  split
  · rename_i hsame
    obtain rfl : j = ev.unit.toNat := Option.some.inj (hinflight.symm.trans hsame)
    split
    · rename_i hcount
      exact .badCount hinflight hqueue rfl hcount
    · exact .sent inWait hinflight hqueue hstate
  · rename_i hother
    exact .ignore hinflight hqueue fun h => hother (h ▸ hinflight)

theorem txWait_effect (hstate : s.txs.state = .running) (hphase : s.txs.phase = .wait) : TxEffect s (txWait s) := by
  unfold txWait
  split
  · rename_i hfree
    exact .proceed hstate hphase hfree
  · rename_i j hinflight
    split
    · exact .stay
    · rename_i ev rest hqueue
      exact txConsume_effect (inWait := true) hinflight hqueue ⟨hstate, hphase⟩

theorem txStopping_effect (hstate : s.txs.state = .stopping) : TxEffect s (txStopping s) := by
  unfold txStopping
  split
  · rename_i hfree
    exact .close hstate hfree
  · rename_i j hinflight
    split
    · exact .stay
    · rename_i ev rest hqueue
      exact txConsume_effect (inWait := false) hinflight hqueue hstate

theorem txRunning_effect (hstate : s.txs.state = .running) : TxEnds s (txRunning s) := by
  have hsession : s.txs.state ≠ .idle := by rw [hstate]; nofun
  unfold txRunning
  cases hphase : s.txs.phase with
  | check =>
    refine .inl ⟨_, rfl, ?_⟩
    split
    · exact .stop hsession (by rw [hstate]; nofun)
    · exact .check hstate
  | fill => exact txRunFill_effect hstate hphase
  | pace => exact .inl ⟨_, rfl, .pace hstate hphase⟩
  | wait => exact .inl ⟨_, rfl, txWait_effect hstate hphase⟩
  | hand =>
    cases henc : s.txs.enc with
    | some e => exact .inl ⟨_, rfl, .hand e hstate hphase henc⟩
    | none => exact .inr ⟨hsession, henc, rfl⟩

theorem txsStep_effect (s : State) : TxEnds s (txsStep s) := by
  unfold txsStep
  split
  · exact .inl ⟨_, rfl, .stay⟩
  · cases hstate : s.txs.state with
    | idle => exact .inl ⟨_, rfl, .stay⟩
    | preloading => exact txPreloading_effect hstate
    | armed =>
      refine .inl ⟨_, rfl, ?_⟩
      split
      · exact .stop (by rw [hstate]; nofun) (by rw [hstate]; nofun)
      · exact .run hstate
    | running => exact txRunning_effect hstate
    | stopping => exact .inl ⟨_, rfl, txStopping_effect hstate⟩

/-! The steps of RXS. -/

/-- RXS back in IDLE, the session of decoder `d` over (R288, R290). -/
def rxClosed (d : DecUnit) (s : State) : State :=
  let t := terminateBody d s.abortArmed
  { t with rxPool := reclaimAll t.rxPool, rxQueue := [],
           rxs := { t.rxs with armedBuf := none, pending := 0, rdIdx := t.rxs.wrIdx, phase := .check, stopReq := false,
                               state := .idle } }

/-- RXS after the chunk `rd_idx` has been parsed (R286). -/
def rxDispatched (t : State) : State :=
  { t with rxs := { t.rxs with captured := t.rxs.captured + 1, rdIdx := nextBuf Config.rxPool t.rxs.rdIdx,
                               pending := t.rxs.pending - 1, phase := .check } }

theorem rxClose_of_bound {d : DecUnit} (h : s.rxs.dec = some d) : rxClose s = .next (rxClosed d s) := by
  unfold rxClose; rw [h]; rfl

theorem rxClose_of_unbound (h : s.rxs.dec = none) : rxClose s = .fault .unbound := by
  unfold rxClose; rw [h]

/-- RXS after the event that buffer `j` is captured: its own again, and to dispatch (R284). -/
def rxCaptured (j : Nat) (rest : List Word) (s : State) : State :=
  { s with rxQueue := rest, rxPool := setOwner s.rxPool j .sched,
           rxs := { s.rxs with armedBuf := none, pending := s.rxs.pending + 1, phase := .dispatch,
                               wrIdx := nextBuf Config.rxPool s.rxs.wrIdx } }

/-- What a step of RXS does, with the state and phase it is taken in (R280 to R288). -/
inductive RxEffect (s : State) : State → Prop where
  | stay : RxEffect s s
  | stop (state : s.rxs.state = .armed ∨ s.rxs.state = .running ∧ s.rxs.phase = .check) :
      RxEffect s (s.setRxState .stopping)
  | run (state : s.rxs.state = .armed) : RxEffect s ((s.setRxState .running).setRxPhase .check)
  | check (state : s.rxs.state = .running) (phase : s.rxs.phase = .check) (free : s.rxs.armedBuf = none) :
      RxEffect s (s.setRxPhase .trigger)
  | resume (x : RxPhase) (state : s.rxs.state = .running) (phase : s.rxs.phase = .check)
      (armed : s.rxs.armedBuf ≠ none) : RxEffect s (s.setRxPhase x)
  | trigger (state : s.rxs.state = .running) (phase : s.rxs.phase = .trigger) : RxEffect s (rxTrigger s)
  | ignore {ev : Word} {rest : List Word} (queue : s.rxQueue = ev :: rest)
      (other : s.rxs.armedBuf ≠ some ev.unit.toNat) : RxEffect s { s with rxQueue := rest }
  | badCount {ev : Word} {rest : List Word} (queue : s.rxQueue = ev :: rest)
      (same : s.rxs.armedBuf = some ev.unit.toNat) (count : ev.arg ≠ s.rxs.n) :
      RxEffect s (State.raiseFatal { s with rxQueue := rest } .count)
  | captured {j : Nat} {ev : Word} {rest : List Word} (state : s.rxs.state = .running) (phase : s.rxs.phase = .wait)
      (armed : s.rxs.armedBuf = some j) (queue : s.rxQueue = ev :: rest) : RxEffect s (rxCaptured j rest s)
  | dispatch {d : DecUnit} {chunk : List Sample} {t : State} {k : Nat} (state : s.rxs.state = .running)
      (phase : s.rxs.phase = .dispatch) (parse : decParse d chunk s = .ok (t, k)) : RxEffect s (rxDispatched t)
  | badRead {c : FatalCode} (state : s.rxs.state = .running) (phase : s.rxs.phase = .dispatch)
      (read : bufReadAll s.tick s.rxPool s.rxs.n.toNat .sched s.rxs.rdIdx s.rxs.n.toNat 0 = .error c) :
      RxEffect s (s.raiseFatal c)
  | badChunk {d : DecUnit} {chunk : List Sample} {c : FatalCode} (state : s.rxs.state = .running)
      (bound : s.rxs.dec = some d)
      (read : bufReadAll s.tick s.rxPool s.rxs.n.toNat .sched s.rxs.rdIdx s.rxs.n.toNat 0 = .ok chunk)
      (parse : decParse d chunk s = .error c) : RxEffect s (s.raiseFatal c)
  | close (d : DecUnit) (state : s.rxs.state = .stopping) : RxEffect s (rxClosed d s)

/-- A step of RXS has one of these effects, or a session has no decoder bound and the model stops (log entry 18). -/
def RxEnds (s : State) (o : Host.Outcome State Fault Refusal) : Prop :=
  (∃ t, o = .next t ∧ RxEffect s t) ∨ (s.rxs.state ≠ .idle ∧ s.rxs.dec = none ∧ o = .fault .unbound)

theorem rxCheck_effect (hstate : s.rxs.state = .running) (hphase : s.rxs.phase = .check) : RxEffect s (rxCheck s) := by
  unfold rxCheck
  split
  · exact .stop (.inr ⟨hstate, hphase⟩)
  · split
    · rename_i hfree
      exact .check hstate hphase hfree
    · rename_i harmed
      split
      · exact .resume _ hstate hphase harmed
      · exact .resume _ hstate hphase harmed

theorem rxWait_effect (hstate : s.rxs.state = .running) (hphase : s.rxs.phase = .wait) : RxEffect s (rxWait s) := by
  unfold rxWait
  split
  · exact .stay
  · rename_i ev rest hqueue
    unfold rxConsume
    split
    · rename_i hsame
      split
      · rename_i hcount
        exact .badCount hqueue hsame hcount
      · exact .captured hstate hphase hsame hqueue
    · rename_i hother
      exact .ignore hqueue hother

theorem rxDispatch_effect (hstate : s.rxs.state = .running) (hphase : s.rxs.phase = .dispatch) :
    RxEnds s (rxDispatch s) := by
  unfold rxDispatch
  cases hdec : s.rxs.dec with
  | none => exact .inr ⟨by rw [hstate]; nofun, hdec, rfl⟩
  | some d =>
    left
    cases hread : bufReadAll s.tick s.rxPool s.rxs.n.toNat .sched s.rxs.rdIdx s.rxs.n.toNat 0 with
    | error c => exact ⟨_, rfl, .badRead hstate hphase hread⟩
    | ok chunk =>
      cases hparse : decParse d chunk s with
      | error c => exact ⟨s.raiseFatal c, by simp only [hparse], .badChunk hstate hdec hread hparse⟩
      | ok r => exact ⟨rxDispatched r.1, by simp only [hparse]; rfl, .dispatch hstate hphase hparse⟩

theorem rxRunning_effect (hstate : s.rxs.state = .running) : RxEnds s (rxRunning s) := by
  unfold rxRunning
  cases hphase : s.rxs.phase with
  | check => exact .inl ⟨_, rfl, rxCheck_effect hstate hphase⟩
  | trigger => exact .inl ⟨_, rfl, .trigger hstate hphase⟩
  | wait => exact .inl ⟨_, rfl, rxWait_effect hstate hphase⟩
  | dispatch => exact rxDispatch_effect hstate hphase

theorem rxsStep_effect (s : State) : RxEnds s (rxsStep s) := by
  unfold rxsStep
  split
  · exact .inl ⟨_, rfl, .stay⟩
  · cases hstate : s.rxs.state with
    | idle => exact .inl ⟨_, rfl, .stay⟩
    | armed =>
      refine .inl ⟨_, rfl, ?_⟩
      split
      · exact .stop (.inl hstate)
      · exact .run hstate
    | running => exact rxRunning_effect hstate
    | stopping =>
      cases hdec : s.rxs.dec with
      | some d => exact .inl ⟨_, rxClose_of_bound hdec, .close d hstate⟩
      | none => exact .inr ⟨by rw [hstate]; nofun, hdec, rxClose_of_unbound hdec⟩

/-! The timers. -/

/-- RXS after the capture timeout: the capture of buffer `j` aborted, the buffer taken back (R287). -/
def rxTimedOut (j : Nat) (s : State) : State :=
  { s.emitRxAbort j with
    rxPool := setOwner s.rxPool j .sched,
    rxs := { s.rxs with timeouts := s.rxs.timeouts + 1, armedBuf := none, phase := .check } }

/-- What an expiry does, where it is enabled (R287, R290). -/
inductive TimerEffect (s : State) : State → Prop where
  | stay : TimerEffect s s
  | timeout {j : Nat} (state : s.rxs.state = .running) (phase : s.rxs.phase = .wait) (queue : s.rxQueue = [])
      (armed : s.rxs.armedBuf = some j) : TimerEffect s (rxTimedOut j s)
  | unarmed (state : s.rxs.state = .running) (phase : s.rxs.phase = .wait) (free : s.rxs.armedBuf = none) :
      TimerEffect s { s with rxs := { s.rxs with timeouts := s.rxs.timeouts + 1, armedBuf := none, phase := .check } }
  | forceTx : TimerEffect s (txClose { s with txs := { s.txs with forced := true } })
  | forceRx (d : DecUnit) : TimerEffect s (rxClosed d { s with rxs := { s.rxs with forced := true } })

theorem captureTimeoutStep_effect (s : State) : TimerEffect s (captureTimeoutStep s) := by
  unfold captureTimeoutStep
  split
  · rename_i henabled
    simp only [captureTimeoutEnabled, Bool.and_eq_true, decide_eq_true_eq, List.isEmpty_iff] at henabled
    obtain ⟨⟨⟨-, hstate⟩, hphase⟩, hqueue⟩ := henabled
    cases harmed : s.rxs.armedBuf with
    | none =>
      simp only [State.abortArmed, State.reclaimArmed, harmed]
      exact .unarmed hstate hphase harmed
    | some j =>
      simp only [State.abortArmed, State.reclaimArmed, harmed]
      simp only [State.emitRxAbort_rxs, harmed]
      exact .timeout hstate hphase hqueue harmed
  · exact .stay

/-- Join expiry has an effect, or a session has no decoder bound and the model stops (log entry 18). -/
theorem joinExpiryStep_effect (s : State) :
    (∃ t, joinExpiryStep s = .next t ∧ TimerEffect s t) ∨
      (s.rxs.state ≠ .idle ∧ s.rxs.dec = none ∧ joinExpiryStep s = .fault .unbound) := by
  unfold joinExpiryStep
  split
  · exact .inl ⟨_, rfl, .stay⟩
  · split
    · exact .inl ⟨_, rfl, .stay⟩
    · rename_i d _
      split
      · exact .inl ⟨_, rfl, .stay⟩
      · rename_i hbusy
        cases d with
        | tx => exact .inl ⟨_, rfl, .forceTx⟩
        | rx =>
          have hsession : s.rxs.state ≠ .idle := by simpa [State.schedIdle] using hbusy
          cases hdec : s.rxs.dec with
          | some d => exact .inl ⟨_, rxClose_of_bound hdec, .forceRx d⟩
          | none => exact .inr ⟨hsession, rfl, rxClose_of_unbound hdec⟩

/-! The event port. -/

/-- Only the event port, its queues and TRANSPORT's side of it may have changed. -/
def PortsOnly (s t : State) : Prop :=
  ∃ evIn evOut txQueue rxQueue txHas rxHas txGrant rxGrant line txBusy rxBusy,
    t = { s with evIn := evIn, evOut := evOut, txQueue := txQueue, rxQueue := rxQueue, txHas := txHas, rxHas := rxHas,
                 txGrant := txGrant, rxGrant := rxGrant, line := line, txBusy := txBusy, rxBusy := rxBusy }

/-- A word of the event port is one of five (R102). -/
theorem decodeEvent_cases {w : Word} {i : Instr} (h : decodeEvent w = some i) :
    (w.code = 0x80 ∧ i = .evTxSent w.unit w.arg) ∨ (w.code = 0x81 ∧ i = .evRxCaptured w.unit w.arg) ∨
    (w.code = 0x90 ∧ i = .reqTxSend w.unit w.arg) ∨ (w.code = 0x91 ∧ i = .reqRxCapture w.unit w.arg) ∨
    (w.code = 0x92 ∧ i = .reqRxAbort w.unit w.arg) := by
  unfold decodeEvent at h
  split_ifs at h with h0 h1 h2 h3 h4 <;> obtain rfl := Option.some.inj h
  · exact .inl ⟨h0, rfl⟩
  · exact .inr (.inl ⟨h1, rfl⟩)
  · exact .inr (.inr (.inl ⟨h2, rfl⟩))
  · exact .inr (.inr (.inr (.inl ⟨h3, rfl⟩)))
  · exact .inr (.inr (.inr (.inr ⟨h4, rfl⟩)))

theorem exec_decodeEvent {w : Word} {i : Instr} (h : decodeEvent w = some i) (s : State) :
    ∃ t, exec i s = .next t ∧ PortsOnly s t := by
  rcases decodeEvent_cases h with ⟨-, rfl⟩ | ⟨-, rfl⟩ | ⟨-, rfl⟩ | ⟨-, rfl⟩ | ⟨-, rfl⟩ <;>
    exact ⟨_, rfl, _, _, _, _, _, _, _, _, _, _, _, rfl⟩

theorem eventStep_ports (s : State) : ∃ t, eventStep s = .next t ∧ PortsOnly s t := by
  unfold eventStep
  cases s.evIn with
  | nil => exact ⟨s, rfl, _, _, _, _, _, _, _, _, _, _, _, rfl⟩
  | cons w rest =>
    dsimp only
    split
    · rename_i i hi
      have hdec : decodeEvent w = some i := by split at hi <;> [exact hi; cases hi]
      obtain ⟨t, ht, evIn, evOut, txQueue, rxQueue, txHas, rxHas, txGrant, rxGrant, line, txBusy, rxBusy, rfl⟩ :=
        exec_decodeEvent hdec { s with evIn := rest }
      exact ⟨_, ht, _, _, _, _, _, _, _, _, _, _, _, rfl⟩
    · exact ⟨_, rfl, _, _, _, _, _, _, _, _, _, _, _, rfl⟩

theorem requestStep_ports (s : State) : ∃ t, requestStep s = .next t ∧ PortsOnly s t := by
  unfold requestStep
  cases s.evOut with
  | nil => exact ⟨s, rfl, _, _, _, _, _, _, _, _, _, _, _, rfl⟩
  | cons w rest =>
    dsimp only
    split
    · rename_i i hdec
      obtain ⟨t, ht, evIn, evOut, txQueue, rxQueue, txHas, rxHas, txGrant, rxGrant, line, txBusy, rxBusy, rfl⟩ :=
        exec_decodeEvent hdec { s with evOut := rest }
      exact ⟨_, ht, _, _, _, _, _, _, _, _, _, _, _, rfl⟩
    · exact ⟨_, rfl, _, _, _, _, _, _, _, _, _, _, _, rfl⟩

/-! Every move. -/

/-- Everything a move can do (00_scope.md R12). -/
inductive MoveEffect (s : State) : State → Prop where
  | host {r q t : State} (before : Answers s r) (command : CommandEffect r q) (after : Answers q t) : MoveEffect s t
  | tx {t : State} (h : TxEffect s t) : MoveEffect s t
  | rx {t : State} (h : RxEffect s t) : MoveEffect s t
  | timer {t : State} (h : TimerEffect s t) : MoveEffect s t
  | ports {t : State} (h : PortsOnly s t) : MoveEffect s t
  | latch (c : FatalCode) : MoveEffect s (s.raiseFatal c)
  | txWrite {pool : List PoolBuf} {j i : Nat} {v : Sample} (h : PoolWrite s.txPool pool j i v) :
      MoveEffect s { s with txPool := pool }
  | rxWrite {pool : List PoolBuf} {j i : Nat} {v : Sample} (h : PoolWrite s.rxPool pool j i v) :
      MoveEffect s { s with rxPool := pool }
  | reset : MoveEffect s s.resetInput

theorem toLine_ports (s : State) (j i : Nat) (v : Option Sample) : PortsOnly s (s.toLine j i v) :=
  ⟨_, _, _, _, _, _, _, _, _, _, _, rfl⟩

/-- A session goes on without the unit its scheduler drives: the one reason the model stops (log entry 18). -/
def SessionUnbound (s : State) : Prop :=
  (s.txs.state ≠ .idle ∧ s.txs.enc = none) ∨ (s.rxs.state ≠ .idle ∧ s.rxs.dec = none)

theorem turnStep_effect (turn : Turn) (s : State) :
    (∃ t, turnStep turn s = .next t ∧ MoveEffect s t) ∨ (SessionUnbound s ∧ turnStep turn s = .fault .unbound) := by
  cases turn with
  | host =>
    obtain ⟨r, q, t, h, hr, hq, ht⟩ := hostStep_effect s
    exact .inl ⟨t, h, .host hr hq ht⟩
  | txs =>
    rcases txsStep_effect s with ⟨t, h, heff⟩ | ⟨hstate, hunit, h⟩
    · exact .inl ⟨t, h, .tx heff⟩
    · exact .inr ⟨.inl ⟨hstate, hunit⟩, h⟩
  | rxs =>
    rcases rxsStep_effect s with ⟨t, h, heff⟩ | ⟨hstate, hunit, h⟩
    · exact .inl ⟨t, h, .rx heff⟩
    · exact .inr ⟨.inr ⟨hstate, hunit⟩, h⟩
  | captureTimeout => exact .inl ⟨_, rfl, .timer (captureTimeoutStep_effect s)⟩
  | joinExpiry =>
    rcases joinExpiryStep_effect s with ⟨t, h, heff⟩ | ⟨hstate, hunit, h⟩
    · exact .inl ⟨t, h, .timer heff⟩
    · exact .inr ⟨.inr ⟨hstate, hunit⟩, h⟩
  | event =>
    obtain ⟨t, h, hports⟩ := eventStep_ports s
    exact .inl ⟨t, h, .ports hports⟩
  | request =>
    obtain ⟨t, h, hports⟩ := requestStep_ports s
    exact .inl ⟨t, h, .ports hports⟩

theorem transportRead_effect (j i : Nat) (s : State) : MoveEffect s (transportRead j i s) := by
  unfold transportRead
  split
  · exact .latch _
  · exact .ports (toLine_ports ..)

theorem transportRxRead_effect (j i : Nat) (s : State) : MoveEffect s (transportRxRead j i s) := by
  unfold transportRxRead
  split
  · exact .latch _
  · exact .ports (toLine_ports ..)

theorem transportWrite_effect (j i : Nat) (v : Sample) (s : State) : MoveEffect s (transportWrite j i v s) := by
  rcases transportWrite_cases s j i v with ⟨c, e, -⟩ | ⟨b, hb, -, -, -, e⟩
  · rw [e]; exact .latch c
  · rw [e]; exact .rxWrite ⟨b, hb, rfl⟩

theorem transportTxWrite_effect (j i : Nat) (v : Sample) (s : State) : MoveEffect s (transportTxWrite j i v s) := by
  rcases transportTxWrite_cases s j i v with ⟨c, e, -⟩ | ⟨b, hb, -, -, -, e⟩
  · rw [e]; exact .latch c
  · rw [e]; exact .txWrite ⟨b, hb, rfl⟩

theorem moveStep_effect (m : Move) (s : State) :
    (∃ t, moveStep m s = .next t ∧ MoveEffect s t) ∨ (SessionUnbound s ∧ moveStep m s = .fault .unbound) := by
  cases m with
  | turn turn => exact turnStep_effect turn s
  | txRead j i => exact .inl ⟨_, rfl, transportRead_effect j i s⟩
  | rxRead j i => exact .inl ⟨_, rfl, transportRxRead_effect j i s⟩
  | txWrite j i v => exact .inl ⟨_, rfl, transportTxWrite_effect j i v s⟩
  | rxWrite j i v => exact .inl ⟨_, rfl, transportWrite_effect j i v s⟩
  | txBusy | rxBusy => exact .inl ⟨_, rfl, .ports ⟨_, _, _, _, _, _, _, _, _, _, _, rfl⟩⟩
  | rst => exact .inl ⟨_, rfl, .reset⟩

/-- A move that ends in a next state has one of the effects. -/
theorem effect_of_moveStep {m : Move} (h : moveStep m s = .next t) : MoveEffect s t := by
  rcases moveStep_effect m s with ⟨r, hr, heff⟩ | ⟨-, hfault⟩
  · rw [h] at hr
    injection hr with hr
    exact hr ▸ heff
  · rw [h] at hfault
    cases hfault

end Sys2Proof.Machine
end

section
/-! Every step keeps every memory in its canonical form (20_memory.md R60, R61; log entry 10). -/

namespace Sys2Proof.Machine

/-! What the decoders' filters become. -/

theorem DecCore.deriveCommon_flt (c : DecCore) : c.deriveCommon.1.flt = c.flt := by
  unfold DecCore.deriveCommon; dsimp only; split <;> rfl

theorem DecOok.derive_flt (d : DecOok) : d.derive.1.core.flt = d.core.flt := by
  rw [← d.core.deriveCommon_flt]
  unfold DecOok.derive
  split
  · rename_i h; rw [h]
  · rename_i h; rw [h]; split <;> rfl

theorem DecPwm.derive_flt (d : DecPwm) : d.derive.1.core.flt = d.core.flt := by
  rw [← d.core.deriveCommon_flt]
  unfold DecPwm.derive
  split <;> (rename_i h; rw [h])

theorem DecMorse.derive_flt (d : DecMorse) : d.derive.1.core.flt = d.core.flt := by
  rw [← d.core.deriveCommon_flt]
  unfold DecMorse.derive
  split <;> (rename_i h; rw [h])

/-- Deriving a configuration leaves the decoders' filters to `INITIALIZE` (R175). -/
theorem decFlt_deriveUnit (u : PluginUnit) (s : State) (d : DecUnit) : (deriveUnit u s).1.decFlt d = s.decFlt d := by
  by_cases hd : .dec d = u
  · subst hd
    cases d with
    | ook => exact congrArg some s.decOok.derive_flt
    | pwm => exact congrArg some s.decPwm.derive_flt
    | morse => exact congrArg some s.decMorse.derive_flt
    | raw => rfl
  · exact (onlyUnit_deriveUnit u s).decFlt hd

theorem decFlt_setDecFlt {s : State} {d : DecUnit} {f g : Flt} (h : (s.setDecFlt d f).decFlt d = some g) : g = f := by
  cases d <;> cases h <;> rfl

theorem DecCore.start_cap {c c' : DecCore} {n : BitVec 16} (h : c.start n = .ok c') : c'.flt.cap = [] := by
  unfold DecCore.start at h
  split at h
  · cases h
  · cases h; rfl

/-- A decoder just initialised has captured nothing (R123, R175). -/
theorem initializeBody_cap {d : DecUnit} {n : BitVec 16} {s t : State} {st : Status} {detail : BitVec 8} {ws : List Word}
    (h : initializeBody d n s = .done t st detail ws) {f : Flt} (hf : t.decFlt d = some f) : f.cap = [] := by
  unfold initializeBody at h
  split at h
  · cases h
  · cases d with
    | raw => cases h; cases hf
    | ook | pwm | morse =>
      dsimp only at h
      split at h
      · cases h
      · rename_i c hc
        cases h
        cases hf
        exact DecCore.start_cap hc

/-- Parsing leaves a decoder's filter as it was, or has processed the chunk with it (R207). -/
theorem decParse_decFlt {d : DecUnit} {raw : List Sample} {s t : State} {k : Nat} (h : decParse d raw s = .ok (t, k))
    (e : DecUnit) {g : Flt} (hg : t.decFlt e = some g) :
    ∃ f, s.decFlt e = some f ∧ (g = f ∨ ∃ offset, f.processChunk raw offset = .ok g) := by
  cases d with
  | raw =>
    simp only [decParse, Except.ok.injEq, Prod.mk.injEq] at h
    obtain ⟨rfl, -⟩ := h
    exact ⟨g, hg, .inl rfl⟩
  | ook =>
    simp only [decParse, DecOok.parse] at h
    cases hf : s.decOok.core.flt.processChunk raw s.decOok.core.der.off with
    | error c => simp [hf] at h
    | ok f =>
      simp only [hf, Except.ok.injEq, Prod.mk.injEq] at h
      obtain ⟨rfl, -⟩ := h
      cases e with
      | ook => cases hg; exact ⟨_, rfl, .inr ⟨_, hf⟩⟩
      | pwm | morse | raw => exact ⟨g, hg, .inl rfl⟩
  | pwm =>
    simp only [decParse, DecPwm.parse] at h
    cases hf : s.decPwm.core.flt.processChunk raw s.decPwm.core.der.off with
    | error c => simp [hf] at h
    | ok f =>
      simp only [hf, Except.ok.injEq, Prod.mk.injEq] at h
      obtain ⟨rfl, -⟩ := h
      cases e with
      | pwm => cases hg; exact ⟨_, rfl, .inr ⟨_, hf⟩⟩
      | ook | morse | raw => exact ⟨g, hg, .inl rfl⟩
  | morse =>
    simp only [decParse, DecMorse.parse] at h
    cases hf : s.decMorse.core.flt.processChunk raw s.decMorse.core.der.off with
    | error c => simp [hf] at h
    | ok f =>
      simp only [hf, Except.ok.injEq, Prod.mk.injEq] at h
      obtain ⟨rfl, -⟩ := h
      cases e with
      | morse => cases hg; exact ⟨_, rfl, .inr ⟨_, hf⟩⟩
      | ook | pwm | raw => exact ⟨g, hg, .inl rfl⟩

/-! Pools. -/

/-- Every buffer of the pool is in canonical form. -/
def PoolWf (pool : List PoolBuf) : Prop := ∀ b ∈ pool, Memory.wf b.samples

/-- The owners are no part of the canonical form. -/
theorem PoolWf.of_samples {pool pool' : List PoolBuf} (h : PoolWf pool)
    (hsamples : pool'.map (·.samples) = pool.map (·.samples)) : PoolWf pool' := by
  intro b hb
  have hmem : b.samples ∈ pool.map (·.samples) := hsamples ▸ List.mem_map_of_mem hb
  obtain ⟨c, hc, hcb⟩ := List.mem_map.1 hmem
  exact hcb ▸ h c hc

theorem PoolWf.setOwner {pool : List PoolBuf} (h : PoolWf pool) (j : Nat) (o : Owner) : PoolWf (setOwner pool j o) :=
  h.of_samples (setOwner_samples pool j o)

theorem PoolWf.reclaimAll {pool : List PoolBuf} (h : PoolWf pool) : PoolWf (reclaimAll pool) :=
  h.of_samples (reclaimAll_samples pool)

theorem PoolWrite.wf {pool pool' : List PoolBuf} {j i : Nat} {v : Sample} (h : PoolWrite pool pool' j i v)
    (hpool : PoolWf pool) : PoolWf pool' := by
  obtain ⟨b, hb, rfl⟩ := h
  intro c hc
  rcases List.mem_or_eq_of_mem_set hc with hc | rfl
  · exact hpool c hc
  · exact Memory.wf_write (hpool b (List.mem_of_getElem? hb)) i v

/-! The effects. -/

namespace MemoriesCanonical

variable {s t : State}

theorem decFlt (hs : MemoriesCanonical s) {d : DecUnit} {f : Flt} (hf : s.decFlt d = some f) : Memory.wf f.cap := by
  cases d <;> cases hf
  · exact hs.ook
  · exact hs.pwm
  · exact hs.morse

/-- Of a plugin unit only a decoder's filter has a memory. -/
theorem of_decFlt (hs : MemoriesCanonical s) (hsystem : t.system = s.system)
    (hflt : ∀ d f, t.decFlt d = some f → Memory.wf f.cap) : MemoriesCanonical t where
  tx := by rw [show t.txPool = s.txPool from congrArg SystemRegs.txPool hsystem]; exact hs.tx
  rx := by rw [show t.rxPool = s.rxPool from congrArg SystemRegs.rxPool hsystem]; exact hs.rx
  pbm := by rw [show t.pbm = s.pbm from congrArg SystemRegs.pbm hsystem]; exact hs.pbm
  flt := by rw [show t.flt = s.flt from congrArg SystemRegs.flt hsystem]; exact hs.flt
  ook := hflt .ook _ rfl
  pwm := hflt .pwm _ rfl
  morse := hflt .morse _ rfl

theorem onlyUnit_dec {d : DecUnit} (hs : MemoriesCanonical s) (h : OnlyUnit (.dec d) s t)
    (hflt : ∀ f, t.decFlt d = some f → Memory.wf f.cap) : MemoriesCanonical t := by
  refine hs.of_decFlt h.system fun e f hf => ?_
  by_cases he : e = d
  · subst he; exact hflt f hf
  · rw [h.decFlt fun h => he (by injection h)] at hf
    exact hs.decFlt hf

theorem onlyUnit_enc {e : EncUnit} (hs : MemoriesCanonical s) (h : OnlyUnit (.enc e) s t) : MemoriesCanonical t :=
  hs.of_decFlt h.system fun d _ hf => hs.decFlt ((h.decFlt (d := d) nofun).symm.trans hf)

theorem setPlug (hs : MemoriesCanonical s) (u : PluginUnit) (p : Plug) : MemoriesCanonical (s.setPlug u p) :=
  hs.of_decFlt (onlyUnit_setPlug s u p).system fun d f hf => by rw [State.decFlt_setPlug] at hf; exact hs.decFlt hf

theorem setDecFlt (hs : MemoriesCanonical s) (d : DecUnit) {f : Flt} (hf : Memory.wf f.cap) :
    MemoriesCanonical (s.setDecFlt d f) :=
  hs.onlyUnit_dec (onlyUnit_setDecFlt s d f) fun g hg => by rw [decFlt_setDecFlt hg]; exact hf

theorem create (hs : MemoriesCanonical s) (u : PluginUnit) : MemoriesCanonical (createBody u s) := by
  cases u with
  | enc e => exact hs.onlyUnit_enc (onlyUnit_createBody (.enc e) s)
  | dec d =>
    refine hs.onlyUnit_dec (onlyUnit_createBody (.dec d) s) fun f hf => ?_
    cases d <;> cases hf <;> exact Memory.wf_nil

theorem derive (hs : MemoriesCanonical s) (u : PluginUnit) : MemoriesCanonical (deriveUnit u s).1 :=
  hs.of_decFlt (onlyUnit_deriveUnit u s).system fun d f hf => by rw [decFlt_deriveUnit] at hf; exact hs.decFlt hf

/-- What a filter that is destroyed has captured stays listed (R132; log entry 11). -/
theorem release (hs : MemoriesCanonical s) (u : PluginUnit) : MemoriesCanonical (releaseBody u s) := by
  have hdestroy : MemoriesCanonical (s.destroyUnitFlt u) := by
    unfold State.destroyUnitFlt
    split
    · split
      · rename_i d _ f hf
        split
        · exact hs.setDecFlt d (f := f.destroy) (show Memory.wf f.cap from hs.decFlt hf)
        · exact hs
      · exact hs
    · exact hs
  refine MemoriesCanonical.setPlug ?_ u _
  cases (s.plug u).bound with
  | unbound => exact hdestroy
  | tx | rx => exact { hdestroy with }

theorem initialise (hs : MemoriesCanonical s) {d : DecUnit} {n : BitVec 16} {st : Status} {detail : BitVec 8}
    {ws : List Word} (h : initializeBody d n s = .done t st detail ws) : MemoriesCanonical t :=
  hs.onlyUnit_dec (initializeBody_done h).only fun f hf => by rw [initializeBody_cap h hf]; exact Memory.wf_nil

theorem parse (hs : MemoriesCanonical s) {d : DecUnit} {raw : List Sample} {k : Nat}
    (h : decParse d raw s = .ok (t, k)) : MemoriesCanonical t := by
  have hflt : ∀ e g, t.decFlt e = some g → Memory.wf g.cap := by
    intro e g hg
    obtain ⟨f, hf, rfl | ⟨offset, hchunk⟩⟩ := decParse_decFlt h e hg
    · exact hs.decFlt hf
    · exact Flt.processChunk_wf hchunk (hs.decFlt hf)
  obtain ⟨-, ⟨a, b, c, rfl⟩, -⟩ := decParse_ok h
  exact hs.of_decFlt rfl hflt

theorem terminate (hs : MemoriesCanonical s) (d : DecUnit) : MemoriesCanonical (terminateBody d s) := by
  refine MemoriesCanonical.setPlug ?_ _ _
  unfold State.destroyDecFlt
  split
  · rename_i f hf
    exact hs.setDecFlt d (f := f.destroy) (show Memory.wf f.cap from hs.decFlt hf)
  · exact hs

theorem generate (hs : MemoriesCanonical s) (e : EncUnit) (k : Nat) : MemoriesCanonical (encSamples e k s).2 := by
  obtain ⟨-, -, a, b, c, d, f, heq⟩ := encSamples_frame e k s
  rw [heq]
  exact { hs with }

theorem answers (hs : MemoriesCanonical s) (h : Answers s t) : MemoriesCanonical t := by
  obtain ⟨rsp, cmdIn, stopWait, halted, fatalCode, rfl⟩ := h
  exact { hs with }

theorem command (hs : MemoriesCanonical s) (h : CommandEffect s t) : MemoriesCanonical t := by
  cases h with
  | keep => exact hs
  | setPlug u p => exact hs.setPlug u p
  | create u => exact hs.create u
  | derive u p q => exact ((hs.setPlug u p).derive u).setPlug u q
  | release u => exact hs.release u
  | initialise body => exact hs.initialise body
  | parse body => exact hs.parse body
  | terminate d => exact hs.terminate d
  | setDout d bs => cases d <;> exact { hs with }
  | reset e => exact hs.onlyUnit_enc (onlyUnit_resetBody e s)
  | generate e k => exact hs.generate e k
  | pbLoad u data => exact { hs with pbm := Memory.wf_writeFrom hs.pbm 0 data }
  | filter f cap => exact { hs with flt := cap hs.flt }
  | bindTx e =>
    obtain ⟨old, honly⟩ := unbindTx_onlyUnit s
    exact { (hs.onlyUnit_enc honly).setPlug (.enc e) { s.unbindTx.plug (.enc e) with bound := .tx } with }
  | bindRx d =>
    have hunbind : MemoriesCanonical s.unbindRx := by
      rcases unbindRx_cases s with ⟨-, h⟩ | ⟨old, -, h⟩ <;> rw [h]
      · exact hs
      · exact hs.setPlug _ _
    exact { hunbind.setPlug (.dec d) { s.unbindRx.plug (.dec d) with bound := .rx } with }
  | txBegin n e =>
    have hreset := hs.onlyUnit_enc (onlyUnit_resetBody e s)
    exact { hreset with tx := PoolWf.reclaimAll hreset.tx }
  | rxBegin n d idle length bound body =>
    have hinit := hs.initialise body
    exact { hinit with rx := PoolWf.reclaimAll hinit.rx }
  | txStop | rxStop => exact { hs with }

theorem fill (hs : MemoriesCanonical s) {j : Nat} (h : txFill j s = .filled t) : MemoriesCanonical t := by
  unfold txFill at h
  split at h
  · cases h
  · rename_i e _
    rw [encPrepare_of_le le_rfl] at h
    have hgen := hs.generate e s.txs.n.toNat
    dsimp only at h
    split at h
    · cases h
    · rename_i pool hpool
      obtain ⟨-, -, hwf⟩ := bufWriteAll_ok hpool
      cases h
      exact { hgen with tx := hwf hgen.tx }

theorem txStep (hs : MemoriesCanonical s) (h : TxEffect s t) : MemoriesCanonical t := by
  cases h with
  | stay => exact hs
  | stop | arm | run | check | skip | pace | proceed | fatal | ignore | badCount => exact { hs with }
  | preload _ fill => exact { hs.fill fill with }
  | fill _ _ fill => exact { hs.fill fill with }
  | sent => exact { hs with tx := PoolWf.setOwner hs.tx _ _ }
  | hand e => exact { hs with tx := PoolWf.setOwner hs.tx _ _ }
  | close => exact { hs with tx := PoolWf.reclaimAll hs.tx }

theorem rxClosed (hs : MemoriesCanonical s) (d : DecUnit) : MemoriesCanonical (rxClosed d s) := by
  have habort : MemoriesCanonical s.abortArmed := by
    unfold State.abortArmed
    split
    · exact { hs with }
    · exact hs
  have hterm := habort.terminate d
  exact { hterm with rx := PoolWf.reclaimAll hterm.rx }

theorem rxStep (hs : MemoriesCanonical s) (h : RxEffect s t) : MemoriesCanonical t := by
  cases h with
  | stay => exact hs
  | stop | run | check | resume | ignore | badCount | badRead | badChunk => exact { hs with }
  | trigger => exact { hs with rx := PoolWf.setOwner hs.rx _ _ }
  | captured => exact { hs with rx := PoolWf.setOwner hs.rx _ _ }
  | dispatch _ _ parse => exact { hs.parse parse with }
  | close d => exact hs.rxClosed d

theorem timer (hs : MemoriesCanonical s) (h : TimerEffect s t) : MemoriesCanonical t := by
  cases h with
  | stay => exact hs
  | timeout => exact { hs with rx := PoolWf.setOwner hs.rx _ _ }
  | unarmed => exact { hs with }
  | forceTx => exact { hs with tx := PoolWf.reclaimAll hs.tx }
  | forceRx d =>
    have hforced : MemoriesCanonical { s with rxs := { s.rxs with forced := true } } := { hs with }
    exact hforced.rxClosed d

theorem move (hs : MemoriesCanonical s) (h : MoveEffect s t) : MemoriesCanonical t := by
  cases h with
  | host before command after => exact ((hs.answers before).command command).answers after
  | tx h => exact hs.txStep h
  | rx h => exact hs.rxStep h
  | timer h => exact hs.timer h
  | ports h =>
    obtain ⟨evIn, evOut, txQueue, rxQueue, txHas, rxHas, txGrant, rxGrant, line, txBusy, rxBusy, rfl⟩ := h
    exact { hs with }
  | latch => exact { hs with }
  | txWrite h => exact { hs with tx := h.wf hs.tx }
  | rxWrite h => exact { hs with rx := h.wf hs.rx }
  | reset => exact { memoriesCanonical_reset with }

end MemoriesCanonical

end Sys2Proof.Machine
end

section
/-! Every step keeps the idle levels and the sweep tables TX samples (43_encoders.md R211, R212, R219, R241). -/

namespace Sys2Proof.Machine

/-- A TX sample lies in 0..TX_MAX (00_scope.md R15). -/
theorem clampTX_le (v : Int) : (Num.clampTX v).toNat ≤ Config.txMax := by
  have hmin : min v.toNat 1023 < 2 ^ 16 := by omega
  rw [Num.clampTX_plcphy, BitVec.toNat_ofNat, Nat.mod_eq_of_lt hmin]
  exact min_le_right _ _

/-- The levels of the encoders and the sweep table: all that `LevelInv` speaks of. -/
def State.levels (s : State) : Sample × List (List Sample) × Sample × Sample × Sample × Sample :=
  (s.encWave.lvl0, s.encWave.swLut, s.encWav.lvl0, s.encOok.lvl0, s.encPwm.lvl0, s.encMorse.lvl0)

theorem LevelInv.of_levels {s t : State} (hs : LevelInv s) (h : t.levels = s.levels) : LevelInv t := by
  simp only [State.levels, Prod.mk.injEq] at h
  obtain ⟨hwave, hlut, hwav, hook, hpwm, hmorse⟩ := h
  exact ⟨hwave ▸ hs.wave, hlut ▸ hs.lut, hwav ▸ hs.wav, hook ▸ hs.ook, hpwm ▸ hs.pwm, hmorse ▸ hs.morse⟩

/-! What leaves the levels alone. -/

theorem levels_setPlug (s : State) (u : PluginUnit) (p : Plug) : (s.setPlug u p).levels = s.levels := by
  rcases u with (_ | _ | _ | _) | (_ | _ | _ | _ | _) <;> rfl

theorem OnlyUnit.levels_dec {s t : State} {d : DecUnit} (h : OnlyUnit (.dec d) s t) : t.levels = s.levels := by
  have hwave : t.encWave = s.encWave := UnitRegs.encWave.inj (h.others (.enc .wave) nofun)
  have hwav : t.encWav = s.encWav := UnitRegs.encWav.inj (h.others (.enc .wav) nofun)
  have hook : t.encOok = s.encOok := UnitRegs.encSeq.inj (h.others (.enc .ook) nofun)
  have hpwm : t.encPwm = s.encPwm := UnitRegs.encSeq.inj (h.others (.enc .pwm) nofun)
  have hmorse : t.encMorse = s.encMorse := UnitRegs.encSeq.inj (h.others (.enc .morse) nofun)
  simp only [State.levels, hwave, hwav, hook, hpwm, hmorse]

theorem levels_unbindTx (s : State) : s.unbindTx.levels = s.levels := by
  rcases unbindTx_cases s with ⟨-, h⟩ | ⟨e, -, h⟩ <;> rw [h]
  exact levels_setPlug ..

theorem levels_unbindRx (s : State) : s.unbindRx.levels = s.levels := by
  rcases unbindRx_cases s with ⟨-, h⟩ | ⟨d, -, h⟩ <;> rw [h]
  exact levels_setPlug ..

theorem levels_releaseBody (u : PluginUnit) (s : State) : (releaseBody u s).levels = s.levels := by
  have hdestroy : (s.destroyUnitFlt u).levels = s.levels := by
    cases u with
    | enc e => rfl
    | dec d => exact (onlyUnit_destroyUnitFlt (.dec d) s).levels_dec
  rw [releaseBody, levels_setPlug, ← hdestroy]
  cases (s.plug u).bound <;> rfl

theorem levels_resetBody (e : EncUnit) (s : State) : (resetBody e s).levels = s.levels := by
  cases e <;> rfl

theorem levels_decParse {d : DecUnit} {raw : List Sample} {s t : State} {k : Nat} (h : decParse d raw s = .ok (t, k)) :
    t.levels = s.levels := by
  obtain ⟨-, ⟨a, b, c, rfl⟩, -⟩ := decParse_ok h
  rfl

/-! What a sample leaves of an encoder. -/

theorem EncWave.sample_levels (u : EncWave) : u.sample.2.lvl0 = u.lvl0 ∧ u.sample.2.swLut = u.swLut := by
  have hsweep : u.sweepSample.2.lvl0 = u.lvl0 ∧ u.sweepSample.2.swLut = u.swLut := by
    simp only [EncWave.sweepSample]
    split <;> exact ⟨rfl, rfl⟩
  simp only [EncWave.sample]
  split
  · exact ⟨rfl, rfl⟩
  · exact ⟨rfl, rfl⟩
  · split <;> exact ⟨rfl, rfl⟩
  · split <;> exact ⟨rfl, rfl⟩
  · exact ⟨rfl, rfl⟩
  · exact hsweep

theorem EncWav.atEnd_lvl0 (u : EncWav) : u.atEnd.lvl0 = u.lvl0 := by
  unfold EncWav.atEnd
  split
  · split <;> rfl
  · rfl

theorem EncWav.sample_lvl0 (pbm : List Host.Cell) (u : EncWav) : (u.sample pbm).2.lvl0 = u.lvl0 := by
  simp only [EncWav.sample]
  split <;> exact u.atEnd_lvl0

theorem EncSeq.sample_lvl0 (u : EncSeq) : u.sample.2.lvl0 = u.lvl0 := by
  obtain ⟨i, a, c, d, h⟩ := EncSeq.load_frame (u.segs.drop u.segIdx.toNat) u
  simp [EncSeq.sample, h]

theorem levels_encSample (e : EncUnit) (s : State) : (encSample e s).2.levels = s.levels := by
  cases e with
  | wave =>
    obtain ⟨hlvl, hlut⟩ := s.encWave.sample_levels
    simp only [encSample, State.levels, hlvl, hlut]
  | wav => simp only [encSample, State.levels, EncWav.sample_lvl0]
  | ook | pwm | morse => simp only [encSample, State.levels, EncSeq.sample_lvl0]

theorem levels_encSamples (e : EncUnit) (k : Nat) (s : State) : (encSamples e k s).2.levels = s.levels := by
  induction k generalizing s with
  | zero => rfl
  | succ k ih => exact (ih _).trans (levels_encSample e s)

/-! What `END_SETTINGS` derives. -/

/-- Every entry of a sweep table is a tone, which is clamped (R216). -/
theorem EncWave.deriveSweep_levels (u : EncWave) (hlut : ∀ row ∈ u.swLut, ∀ v ∈ row, v.toNat ≤ Config.txMax) :
    u.deriveSweep.1.lvl0 = u.lvl0 ∧ ∀ row ∈ u.deriveSweep.1.swLut, ∀ v ∈ row, v.toNat ≤ Config.txMax := by
  unfold EncWave.deriveSweep
  dsimp only
  split
  · split
    · exact ⟨rfl, hlut⟩
    · refine ⟨rfl, fun row hrow v hv => ?_⟩
      obtain ⟨iteration, -, rfl⟩ := List.mem_map.1 hrow
      obtain ⟨n, -, rfl⟩ := List.mem_map.1 hv
      exact clampTX_le _
  · exact ⟨rfl, hlut⟩

theorem EncWave.derive_levels (u : EncWave) (hlut : ∀ row ∈ u.swLut, ∀ v ∈ row, v.toNat ≤ Config.txMax) :
    u.derive.1.lvl0.toNat ≤ Config.txMax ∧ ∀ row ∈ u.derive.1.swLut, ∀ v ∈ row, v.toNat ≤ Config.txMax := by
  unfold EncWave.derive
  dsimp only
  split
  · obtain ⟨hlvl, hrows⟩ := EncWave.deriveSweep_levels { u with
      stype := u.plug.num idStreamType, efw := Num.freqWord (u.plug.num idFreq) (u.plug.num idSamplingRate),
      rng := BitVec.ofNat 16 (u.plug.num idRange), amp := BitVec.ofNat 16 (u.plug.num idRange / 2),
      lo := (u.plug.num idOffset : Int) - ((u.plug.num idRange / 2 : Nat) : Int),
      lvl0 := Num.clampTX (u.plug.num idOffset) } hlut
    exact ⟨by rw [hlvl]; exact clampTX_le _, hrows⟩
  · exact ⟨clampTX_le _, hlut⟩

theorem EncWav.derive_level (u : EncWav) (h : u.lvl0.toNat ≤ Config.txMax) : u.derive.1.lvl0.toNat ≤ Config.txMax := by
  unfold EncWav.derive
  split_ifs
  iterate 3 exact h
  exact clampTX_le _

theorem EncSeq.derive_level (u : EncSeq) (segs : List Segment) (h : u.lvl0.toNat ≤ Config.txMax) :
    (u.derive segs).1.lvl0.toNat ≤ Config.txMax := by
  unfold EncSeq.derive
  dsimp only
  split
  · exact h
  · split
    · exact h
    · exact clampTX_le _

/-! The effects. -/

namespace LevelInv

variable {s t : State}

theorem derive (hs : LevelInv s) (u : PluginUnit) : LevelInv (deriveUnit u s).1 := by
  cases u with
  | dec d => exact hs.of_levels (onlyUnit_deriveUnit (.dec d) s).levels_dec
  | enc e =>
    cases e with
    | wave =>
      obtain ⟨hlvl, hlut⟩ := s.encWave.derive_levels hs.lut
      exact { hs with wave := hlvl, lut := hlut }
    | wav => exact { hs with wav := s.encWav.derive_level hs.wav }
    | ook => exact { hs with ook := s.encOok.derive_level _ hs.ook }
    | pwm => exact { hs with pwm := s.encPwm.derive_level _ hs.pwm }
    | morse => exact { hs with morse := s.encMorse.derive_level _ hs.morse }

theorem create (hs : LevelInv s) (u : PluginUnit) : LevelInv (createBody u s) := by
  cases u with
  | dec d => exact hs.of_levels (onlyUnit_createBody (.dec d) s).levels_dec
  | enc e =>
    cases e with
    | wave => exact { hs with wave := Nat.zero_le _, lut := fun row hrow => nomatch hrow }
    | wav => exact { hs with wav := Nat.zero_le _ }
    | ook => exact { hs with ook := Nat.zero_le _ }
    | pwm => exact { hs with pwm := Nat.zero_le _ }
    | morse => exact { hs with morse := Nat.zero_le _ }

theorem command (hs : LevelInv s) (h : CommandEffect s t) : LevelInv t := by
  cases h with
  | keep => exact hs
  | setPlug u p => exact hs.of_levels (levels_setPlug s u p)
  | create u => exact hs.create u
  | derive u p q =>
    have hplug := hs.of_levels (levels_setPlug s u p)
    exact (hplug.derive u).of_levels (levels_setPlug ..)
  | release u => exact hs.of_levels (levels_releaseBody u s)
  | initialise body => exact hs.of_levels (initializeBody_done body).only.levels_dec
  | parse body => exact hs.of_levels (levels_decParse body)
  | terminate d => exact hs.of_levels (onlyUnit_terminateBody d s).levels_dec
  | setDout d bs => cases d <;> exact { hs with }
  | reset e => exact hs.of_levels (levels_resetBody e s)
  | generate e k => exact hs.of_levels (levels_encSamples e k s)
  | pbLoad u data lvl0 => exact { hs with wav := by rw [lvl0]; exact hs.wav }
  | filter | txStop | rxStop => exact { hs with }
  | bindTx e => exact hs.of_levels ((levels_setPlug s.unbindTx (.enc e) _).trans (levels_unbindTx s))
  | bindRx d => exact hs.of_levels ((levels_setPlug s.unbindRx (.dec d) _).trans (levels_unbindRx s))
  | txBegin n e => exact hs.of_levels (levels_resetBody e s)
  | rxBegin n d _ _ _ body => exact hs.of_levels (initializeBody_done body).only.levels_dec

theorem fill (hs : LevelInv s) {j : Nat} (h : txFill j s = .filled t) : LevelInv t := by
  unfold txFill at h
  split at h
  · cases h
  · rename_i e _
    rw [encPrepare_of_le le_rfl] at h
    dsimp only at h
    split at h
    · cases h
    · cases h
      exact hs.of_levels (levels_encSamples e _ s)

theorem txStep (hs : LevelInv s) (h : TxEffect s t) : LevelInv t := by
  cases h with
  | stay => exact hs
  | stop | arm | run | check | skip | pace | proceed | fatal | ignore | badCount | sent | hand | close =>
    exact { hs with }
  | preload _ fill => exact { hs.fill fill with }
  | fill _ _ fill => exact { hs.fill fill with }

theorem rxClosed (hs : LevelInv s) (d : DecUnit) : LevelInv (rxClosed d s) := by
  have habort : LevelInv s.abortArmed := by
    unfold State.abortArmed
    split
    · exact { hs with }
    · exact hs
  exact habort.of_levels (onlyUnit_terminateBody d s.abortArmed).levels_dec

theorem rxStep (hs : LevelInv s) (h : RxEffect s t) : LevelInv t := by
  cases h with
  | stay => exact hs
  | stop | run | check | resume | trigger | ignore | badCount | captured | badRead | badChunk => exact { hs with }
  | dispatch _ _ parse => exact { hs.of_levels (levels_decParse parse) with }
  | close d => exact hs.rxClosed d

theorem timer (hs : LevelInv s) (h : TimerEffect s t) : LevelInv t := by
  cases h with
  | stay => exact hs
  | timeout | unarmed | forceTx => exact { hs with }
  | forceRx d =>
    have hforced : LevelInv { s with rxs := { s.rxs with forced := true } } := { hs with }
    exact hforced.rxClosed d

theorem answers (hs : LevelInv s) (h : Answers s t) : LevelInv t := by
  obtain ⟨rsp, cmdIn, stopWait, halted, fatalCode, rfl⟩ := h
  exact { hs with }

theorem move (hs : LevelInv s) (h : MoveEffect s t) : LevelInv t := by
  cases h with
  | host before command after => exact ((hs.answers before).command command).answers after
  | tx h => exact hs.txStep h
  | rx h => exact hs.rxStep h
  | timer h => exact hs.timer h
  | ports h =>
    obtain ⟨evIn, evOut, txQueue, rxQueue, txHas, rxHas, txGrant, rxGrant, line, txBusy, rxBusy, rfl⟩ := h
    exact { hs with }
  | latch | txWrite | rxWrite => exact { hs with }
  | reset => exact { levelInv_reset with }

end LevelInv

/-- Settles O13: each effect of a move keeps the canonical form (`MemoriesCanonical.move`) and the levels
(`LevelInv.move`), and the end of a move changes the agenda only. -/
theorem everyStepKeepsMemoriesAndLevels : Obligations.EveryStepKeepsMemoriesAndLevels := by
  refine ⟨fun s t hs h => ?_, fun s t hs h => ?_⟩
  · obtain ⟨r, hmove, rfl⟩ := step_eq_next h
    exact { hs.move (effect_of_moveStep hmove) with }
  · obtain ⟨r, hmove, rfl⟩ := step_eq_next h
    exact { hs.move (effect_of_moveStep hmove) with }

end Sys2Proof.Machine
end

section
/-! What every effect means to the schedulers, their pools and their words on the event port. -/

namespace Sys2Proof.Machine

variable {s t r : State}

/-- The schedulers, their pools, their event queues and TRANSPORT's side of the event port are the same. -/
structure SameSched (s t : State) : Prop where
  txs : t.txs = s.txs
  rxs : t.rxs = s.rxs
  txPool : t.txPool = s.txPool
  txFilled : t.txFilled = s.txFilled
  rxPool : t.rxPool = s.rxPool
  txQueue : t.txQueue = s.txQueue
  rxQueue : t.rxQueue = s.rxQueue
  evOut : t.evOut = s.evOut
  txHas : t.txHas = s.txHas
  rxHas : t.rxHas = s.rxHas
  txGrant : t.txGrant = s.txGrant
  rxGrant : t.rxGrant = s.rxGrant

theorem SameSched.refl (s : State) : SameSched s s := ⟨rfl, rfl, rfl, rfl, rfl, rfl, rfl, rfl, rfl, rfl, rfl, rfl⟩

theorem SameSched.trans (h : SameSched s r) (k : SameSched r t) : SameSched s t where
  txs := k.txs.trans h.txs
  rxs := k.rxs.trans h.rxs
  txPool := k.txPool.trans h.txPool
  txFilled := k.txFilled.trans h.txFilled
  rxPool := k.rxPool.trans h.rxPool
  txQueue := k.txQueue.trans h.txQueue
  rxQueue := k.rxQueue.trans h.rxQueue
  evOut := k.evOut.trans h.evOut
  txHas := k.txHas.trans h.txHas
  rxHas := k.rxHas.trans h.rxHas
  txGrant := k.txGrant.trans h.txGrant
  rxGrant := k.rxGrant.trans h.rxGrant

/-- An operation confined to a unit is none of the schedulers' business. -/
theorem OnlyUnit.sameSched {u : PluginUnit} (h : OnlyUnit u s t) : SameSched s t where
  txs := h.txs
  rxs := h.rxs
  txPool := congrArg SystemRegs.txPool h.system
  txFilled := congrArg SystemRegs.txFilled h.system
  rxPool := congrArg SystemRegs.rxPool h.system
  txQueue := congrArg SystemRegs.txQueue h.system
  rxQueue := congrArg SystemRegs.rxQueue h.system
  evOut := congrArg Ports.evOut h.ports
  txHas := congrArg Ports.txHas h.ports
  rxHas := congrArg Ports.rxHas h.ports
  txGrant := congrArg Ports.txGrant h.ports
  rxGrant := congrArg Ports.rxGrant h.ports

theorem Answers.sameSched (h : Answers s t) : SameSched s t := by
  obtain ⟨rsp, cmdIn, stopWait, halted, fatalCode, rfl⟩ := h
  exact { SameSched.refl s with }

theorem sameSched_setDout (s : State) (d : DecUnit) (bs : List Byte) : SameSched s (s.setDout d bs) := by
  cases d <;> exact { SameSched.refl s with }

theorem decParse_sameSched {d : DecUnit} {raw : List Sample} {k : Nat} (h : decParse d raw s = .ok (t, k)) :
    SameSched s t := by
  obtain ⟨-, ⟨a, b, c, rfl⟩, -⟩ := decParse_ok h
  exact { SameSched.refl s with }

theorem encSamples_sameSched (e : EncUnit) (k : Nat) (s : State) : SameSched s (encSamples e k s).2 := by
  obtain ⟨-, -, a, b, c, d, f, heq⟩ := encSamples_frame e k s
  rw [heq]
  exact { SameSched.refl s with }

/-- What a command does to the schedulers, beside what `SameSched` leaves open. -/
inductive SchedEffect (s : State) : State → Prop where
  | keep : SchedEffect s s
  | rebindTx (enc : Option EncUnit) (idle : s.txs.state = .idle) : SchedEffect s { s with txs := { s.txs with enc := enc } }
  | rebindRx (dec : Option DecUnit) (idle : s.rxs.state = .idle) : SchedEffect s { s with rxs := { s.rxs with dec := dec } }
  | txBegin (n : BitVec 16) (idle : s.txs.state = .idle) (length : n ≠ 0) (bound : s.txs.enc ≠ none)
      (quiet : s.txBusy = false) : SchedEffect s (txBegin n s)
  | rxBegin (n : BitVec 16) (idle : s.rxs.state = .idle) (length : n ≠ 0) (bound : s.rxs.dec ≠ none) :
      SchedEffect s (rxBegin n s)
  | txStop : SchedEffect s { s with txs := { s.txs with stopReq := true } }
  | rxStop : SchedEffect s { s with rxs := { s.rxs with stopReq := true } }

/-- `RELEASE` undoes the binding of a scheduler, if there is one, that is idle, the unit not being busy (R142, R148). -/
theorem releaseBody_sched {u : PluginUnit} (hfree : s.busy u = false) :
    ∃ r, SchedEffect s r ∧ SameSched r (releaseBody u s) := by
  have hdestroy := (onlyUnit_destroyUnitFlt u s).sameSched
  unfold releaseBody
  cases hbound : (s.plug u).bound with
  | unbound => exact ⟨s, .keep, hdestroy.trans (onlyUnit_setPlug ..).sameSched⟩
  | tx =>
    have hidle : s.txs.state = .idle := by simpa [busy_of_tx hbound] using hfree
    refine ⟨_, .rebindTx none hidle, SameSched.trans ?_ (onlyUnit_setPlug ..).sameSched⟩
    exact { hdestroy with txs := congrArg (fun x => { x with enc := none }) hdestroy.txs }
  | rx =>
    have hidle : s.rxs.state = .idle := by simpa [busy_of_rx hbound] using hfree
    refine ⟨_, .rebindRx none hidle, SameSched.trans ?_ (onlyUnit_setPlug ..).sameSched⟩
    exact { hdestroy with rxs := congrArg (fun x => { x with dec := none }) hdestroy.rxs }

theorem bindTx_sched (e : EncUnit) (s : State) :
    SameSched { s with txs := { s.txs with enc := some e } } (bindTx e s) := by
  obtain ⟨old, honly⟩ := unbindTx_onlyUnit s
  have hbind : OnlyUnit (.enc e) s.unbindTx (s.unbindTx.setBound (.enc e) .tx) := onlyUnit_setPlug ..
  have hsame := honly.sameSched.trans hbind.sameSched
  exact { hsame with txs := congrArg (fun x => { x with enc := some e }) hsame.txs }

theorem bindRx_sched (d : DecUnit) (s : State) :
    SameSched { s with rxs := { s.rxs with dec := some d } } (bindRx d s) := by
  obtain ⟨old, honly⟩ := unbindRx_onlyUnit s
  have hbind : OnlyUnit (.dec d) s.unbindRx (s.unbindRx.setBound (.dec d) .rx) := onlyUnit_setPlug ..
  have hsame := honly.sameSched.trans hbind.sameSched
  exact { hsame with rxs := congrArg (fun x => { x with dec := some d }) hsame.rxs }

theorem txBegin_sched (n : BitVec 16) (h : SameSched s t) : SameSched (txBegin n s) (txBegin n t) where
  txs := by simp only [txBegin, h.txs]
  rxs := h.rxs
  txPool := congrArg reclaimAll h.txPool
  txFilled := congrArg (List.map fun _ => false) h.txFilled
  rxPool := h.rxPool
  txQueue := rfl
  rxQueue := h.rxQueue
  evOut := h.evOut
  txHas := h.txHas
  rxHas := h.rxHas
  txGrant := h.txGrant
  rxGrant := h.rxGrant

theorem rxBegin_sched (n : BitVec 16) (h : SameSched s t) : SameSched (rxBegin n s) (rxBegin n t) where
  txs := h.txs
  rxs := by simp only [rxBegin, h.rxs]
  txPool := h.txPool
  txFilled := h.txFilled
  rxPool := congrArg reclaimAll h.rxPool
  txQueue := h.txQueue
  rxQueue := rfl
  evOut := h.evOut
  txHas := h.txHas
  rxHas := h.rxHas
  txGrant := h.txGrant
  rxGrant := h.rxGrant

/-- Every command leaves the schedulers alone, or binds, unbinds, starts or stops one. -/
theorem CommandEffect.sched (h : CommandEffect s t) : ∃ r, SchedEffect s r ∧ SameSched r t := by
  have hkeep : SameSched s t → ∃ r, SchedEffect s r ∧ SameSched r t := fun k => ⟨s, .keep, k⟩
  cases h with
  | keep | pbLoad | filter => exact hkeep { SameSched.refl s with }
  | setPlug => exact hkeep (onlyUnit_setPlug ..).sameSched
  | create => exact hkeep (onlyUnit_createBody ..).sameSched
  | derive u p q =>
    have hderive := (onlyUnit_setPlug s u p).trans (onlyUnit_deriveUnit u _)
    exact hkeep (hderive.trans (onlyUnit_setPlug _ u q)).sameSched
  | release u free => exact releaseBody_sched free
  | initialise body => exact hkeep (initializeBody_done body).only.sameSched
  | parse body => exact hkeep (decParse_sameSched body)
  | terminate => exact hkeep (onlyUnit_terminateBody ..).sameSched
  | setDout => exact hkeep (sameSched_setDout ..)
  | reset => exact hkeep (onlyUnit_resetBody ..).sameSched
  | generate => exact hkeep (encSamples_sameSched ..)
  | bindTx e idle => exact ⟨_, .rebindTx (some e) idle, bindTx_sched e s⟩
  | bindRx d idle => exact ⟨_, .rebindRx (some d) idle, bindRx_sched d s⟩
  | txBegin n e idle length bound quiet =>
    exact ⟨_, .txBegin n idle length (by rw [bound]; nofun) quiet, txBegin_sched n (onlyUnit_resetBody e s).sameSched⟩
  | rxBegin n d idle length bound body =>
    exact ⟨_, .rxBegin n idle length (by rw [bound]; nofun), rxBegin_sched n (initializeBody_done body).only.sameSched⟩
  | txStop => exact ⟨_, .txStop, .refl _⟩
  | rxStop => exact ⟨_, .rxStop, .refl _⟩

/-- A buffer filled: one `filled` bit set, one buffer's samples written, and the encoder's registers (R269). -/
theorem txFill_filled {j : Nat} (h : txFill j s = .filled t) :
    ∃ q pool, SameSched s q ∧ t = { q with txPool := pool, txFilled := s.txFilled.set j true } ∧
      pool.map (·.owner) = s.txPool.map (·.owner) := by
  unfold txFill at h
  split at h
  · cases h
  · rename_i e _
    have hsame := encSamples_sameSched e s.txs.n.toNat s
    rw [encPrepare_of_le le_rfl] at h
    dsimp only at h
    split at h
    · cases h
    · rename_i pool hpool
      obtain ⟨-, howner, -⟩ := bufWriteAll_ok hpool
      cases h
      exact ⟨_, pool, hsame, by rw [hsame.txFilled], by rw [howner, hsame.txPool]⟩

/-- The registers of TXS after a hand-over: all but the pacing registers do not depend on the rate (R273). -/
theorem Txs.hand_regs (x : Txs) (rate : Nat) :
    ∃ dueNs dueRem, x.hand rate =
      { x with inflight := some x.fillIdx, fillIdx := nextBuf Config.txPool x.fillIdx, cycles := x.cycles + 1,
               phase := .check, dueNs := dueNs, dueRem := dueRem } := by
  unfold Txs.hand
  dsimp only
  split
  · exact ⟨_, _, rfl⟩
  · exact ⟨_, _, rfl⟩

/-- The end of an RX session, for the schedulers: what `rxClosed` says of them with the decoder left out. -/
theorem rxClosed_sched (d : DecUnit) (s : State) :
    SameSched
      { s.abortArmed with
        rxPool := reclaimAll s.rxPool, rxQueue := [],
        rxs := { s.rxs with armedBuf := none, pending := 0, rdIdx := s.rxs.wrIdx, phase := .check, stopReq := false,
                            state := .idle } }
      (rxClosed d s) := by
  have hterm := (onlyUnit_terminateBody d s.abortArmed).sameSched
  have hrxs : (terminateBody d s.abortArmed).rxs = s.rxs := hterm.rxs.trans (State.abortArmed_rxs s)
  have hpool : (terminateBody d s.abortArmed).rxPool = s.rxPool := hterm.rxPool.trans (State.abortArmed_rxPool s)
  exact { hterm with
    rxs := by simp only [rxClosed, hrxs]
    rxPool := congrArg reclaimAll hpool
    rxQueue := rfl }

end Sys2Proof.Machine
end

section
/-! Every step keeps the pool invariants, and none stops (20_memory.md R64, R65; 44_scheduler.md R276, R292). -/

namespace Sys2Proof.Machine

/-! The owners of a pool after a hand-over, a return, and a return of all. -/

theorem length_of_owners {pool : List PoolBuf} {size : Nat} {held : Option Nat}
    (h : pool.map (·.owner) = owners size held) : pool.length = size := by
  simpa [owners] using congrArg List.length h

theorem owner_setOwner (pool : List PoolBuf) (j : Nat) (o : Owner) :
    (setOwner pool j o).map (·.owner) = (pool.map (·.owner)).modify j (fun _ => o) := by
  unfold setOwner
  refine List.ext_getElem (by simp) fun k h1 h2 => ?_
  simp only [List.getElem_map, List.getElem_modify]
  split <;> rfl

theorem owner_reclaimAll {pool : List PoolBuf} {size : Nat} {held : Option Nat}
    (h : pool.map (·.owner) = owners size held) : (reclaimAll pool).map (·.owner) = owners size none := by
  have hlen := length_of_owners h
  refine List.ext_getElem (by simp [owners, hlen]) fun k h1 h2 => ?_
  simp [reclaimAll, owners]

/-- A buffer handed over, the pool's other buffers being the scheduler's. -/
theorem owner_lend {pool : List PoolBuf} {size : Nat} (j : Nat) (h : pool.map (·.owner) = owners size none) :
    (setOwner pool j .transport).map (·.owner) = owners size (some j) := by
  rw [owner_setOwner, h]
  refine List.ext_getElem (by simp [owners]) fun k h1 h2 => ?_
  simp only [owners, List.getElem_modify, List.getElem_map, List.getElem_range, reduceCtorEq, if_false,
    Option.some.injEq]

/-- The one buffer that was handed over taken back. -/
theorem owner_return {pool : List PoolBuf} {size j : Nat} (h : pool.map (·.owner) = owners size (some j)) :
    (setOwner pool j .sched).map (·.owner) = owners size none := by
  rw [owner_setOwner, h]
  refine List.ext_getElem (by simp [owners]) fun k h1 h2 => ?_
  simp only [owners, List.getElem_modify, List.getElem_map, List.getElem_range, reduceCtorEq, if_false,
    Option.some.injEq]
  split <;> rfl

/-- In a pool of two or more the next buffer is another one. -/
theorem nextBuf_ne {size j : Nat} (hsize : 2 ≤ size) (hj : j < size) : nextBuf size j ≠ j := by
  unfold nextBuf
  by_cases h : j + 1 < size
  · rw [Nat.mod_eq_of_lt h]; omega
  · obtain rfl : size = j + 1 := by omega
    rw [Nat.mod_self]; omega

theorem nextBuf_lt {size : Nat} (hsize : 0 < size) (j : Nat) : nextBuf size j < size := Nat.mod_lt _ hsize

theorem two_le_txPool : 2 ≤ Config.txPool := le_rfl

theorem two_le_rxPool : 2 ≤ Config.rxPool := le_rfl

/-! The TX pool. -/

namespace TxPoolInv

variable {s t : State}

theorem same (hs : TxPoolInv s) (h : SameSched s t) : TxPoolInv t where
  owner := by rw [h.txPool, h.txs]; exact hs.owner
  filledSize := by rw [h.txFilled]; exact hs.filledSize
  fillIdx := by rw [h.txs]; exact hs.fillIdx
  inflight := by rw [h.txs]; exact hs.inflight
  idle := by rw [h.txs, h.txFilled]; exact hs.idle
  starting := by rw [h.txs]; exact hs.starting
  running := by rw [h.txs]; exact hs.running
  filled := by rw [h.txs, h.txFilled]; exact hs.filled
  hand := by rw [h.txs]; exact hs.hand
  session := by rw [h.txs]; exact hs.session

theorem unfilled (hs : TxPoolInv s) : s.txFilled.map (fun _ => false) = List.replicate Config.txPool false := by
  rw [List.map_const', hs.filledSize]

theorem sched (hs : TxPoolInv s) (h : SchedEffect s t) : TxPoolInv t := by
  cases h with
  | keep => exact hs
  | rebindTx enc idle => exact { hs with session := fun h => absurd idle h }
  | rebindRx | rxBegin | txStop | rxStop => exact { hs with }
  | txBegin n idle length bound =>
    exact {
      owner := owner_reclaimAll hs.owner
      filledSize := (List.length_map ..).trans hs.filledSize
      fillIdx := Nat.zero_lt_of_lt two_le_txPool
      inflight := nofun
      idle := nofun
      starting := fun _ => rfl
      running := nofun
      filled := nofun
      hand := nofun
      session := fun _ => ⟨bound, length⟩ }

/-- Filling the buffer `fill_idx` touches no owner and no other `filled` bit. -/
theorem fill (hs : TxPoolInv s) (hstate : s.txs.state ≠ .idle) (h : txFill s.txs.fillIdx s = .filled t) :
    TxPoolInv t ∧ t.txs = s.txs ∧ t.txFilled.getD s.txs.fillIdx false = true := by
  obtain ⟨q, pool, hsame, rfl, howner⟩ := txFill_filled h
  have hq := hs.same hsame
  have hset : (s.txFilled.set s.txs.fillIdx true).getD s.txs.fillIdx false = true := by
    simp [List.getD_eq_getElem?_getD, hs.filledSize, hs.fillIdx]
  refine ⟨{ hq with owner := ?_, filledSize := ?_, idle := ?_, filled := ?_ }, hsame.txs, hset⟩
  · rw [← hsame.txPool] at howner
    exact howner.trans hq.owner
  · exact (List.length_set ..).trans hs.filledSize
  · intro hidle
    rw [hsame.txs] at hidle
    exact absurd hidle hstate
  · intro _ _
    rw [hsame.txs]
    exact hset

theorem txClose (hs : TxPoolInv s) : TxPoolInv (txClose s) where
  owner := owner_reclaimAll hs.owner
  filledSize := (List.length_map ..).trans hs.filledSize
  fillIdx := hs.fillIdx
  inflight := nofun
  idle _ := ⟨rfl, hs.unfilled⟩
  starting _ := rfl
  running := nofun
  filled := nofun
  hand := nofun
  session h := absurd rfl h

/-- A buffer sent is not the one to fill, so clearing its `filled` bit leaves that one's. -/
theorem txSent (hs : TxPoolInv s) {inWait : Bool} {j : Nat} (rest : List Word) (inflight : s.txs.inflight = some j)
    (state : if inWait then s.txs.state = .running ∧ s.txs.phase = .wait else s.txs.state = .stopping) :
    TxPoolInv (txSent inWait j rest s) where
  owner := owner_return (inflight ▸ hs.owner)
  filledSize := by
    cases inWait with
    | false => exact hs.filledSize
    | true => exact (List.length_set ..).trans hs.filledSize
  fillIdx := hs.fillIdx
  inflight := nofun
  idle hidle := by
    have hnone := (hs.idle hidle).1
    rw [inflight] at hnone
    cases hnone
  starting _ := rfl
  running _ := nofun
  filled hrun hphase := by
    have hother : j ≠ s.txs.fillIdx := fun h => hs.running hrun (h ▸ inflight)
    cases inWait with
    | false => rw [show s.txs.state = .running from hrun] at state; cases state
    | true =>
      have hfilled := hs.filled hrun hphase
      change (s.txFilled.set j false).getD s.txs.fillIdx false = true
      rwa [List.getD_eq_getElem?_getD, List.getElem?_set_ne hother, ← List.getD_eq_getElem?_getD]
  hand _ _ := rfl
  session := hs.session

theorem txHand (hs : TxPoolInv s) (e : EncUnit) (state : s.txs.state = .running) (phase : s.txs.phase = .hand) :
    TxPoolInv (txHand e s) := by
  have hfree : s.txs.inflight = none := hs.hand state phase
  obtain ⟨dueNs, dueRem, hregs⟩ := s.txs.hand_regs ((s.plug (.enc e)).num idSamplingRate)
  have htxs : (Machine.txHand e s).txs = _ := hregs
  exact {
    owner := by rw [htxs]; exact owner_lend _ (hfree ▸ hs.owner)
    filledSize := hs.filledSize
    fillIdx := by rw [htxs]; exact nextBuf_lt (Nat.zero_lt_of_lt two_le_txPool) _
    inflight := by rw [htxs]; rintro j ⟨⟩; exact hs.fillIdx
    idle := by rw [htxs]; intro h; rw [state] at h; cases h
    starting := by rw [htxs]; intro h; rw [state] at h; rcases h with h | h <;> cases h
    running := by
      rw [htxs]
      intro _ h
      exact nextBuf_ne two_le_txPool hs.fillIdx (Option.some.inj h).symm
    filled := by rw [htxs]; intro _ h; rcases h with h | h | h <;> cases h
    hand := by rw [htxs]; intro _ h; cases h
    session := by rw [htxs]; exact hs.session }

/-- RUNNING in a phase in which `fill_idx` need not be filled, no buffer being in flight or it not being `fill_idx`. -/
theorem setPhase (hs : TxPoolInv s) {x : TxPhase} (filled : x = .pace ∨ x = .wait ∨ x = .hand → s.txFilled.getD s.txs.fillIdx false = true)
    (hand : x = .hand → s.txs.inflight = none) : TxPoolInv (s.setTxPhase x) where
  owner := hs.owner
  filledSize := hs.filledSize
  fillIdx := hs.fillIdx
  inflight := hs.inflight
  idle := hs.idle
  starting := hs.starting
  running := hs.running
  filled _ := filled
  hand _ := hand
  session := hs.session

theorem txStep (hs : TxPoolInv s) (h : TxEffect s t) : TxPoolInv t := by
  cases h with
  | stay => exact hs
  | stop session =>
    exact { hs with
      idle := nofun
      starting := fun h => nomatch h
      running := nofun
      filled := nofun
      hand := nofun
      session := fun _ => hs.session session }
  | arm state =>
    exact { hs with
      idle := nofun
      starting := fun _ => hs.starting (.inl state)
      running := nofun
      filled := nofun
      hand := nofun
      session := fun _ => hs.session (by rw [state]; nofun) }
  | run state =>
    have hfree := hs.starting (.inr state)
    exact { hs with
      idle := nofun
      starting := fun _ => hfree
      running := fun _ h => nomatch hfree.symm.trans h
      filled := fun _ h => nomatch h
      hand := nofun
      session := fun _ => hs.session (by rw [state]; nofun) }
  | check state => exact hs.setPhase nofun nofun
  | skip state filled => exact hs.setPhase (fun _ => filled) nofun
  | pace state phase => exact hs.setPhase (fun _ => hs.filled state (.inl phase)) nofun
  | proceed state phase free =>
    exact hs.setPhase (fun _ => hs.filled state (.inr (.inl phase))) fun _ => free
  | preload state fill =>
    obtain ⟨ht, htxs, -⟩ := hs.fill (by rw [state]; nofun) fill
    rw [← htxs] at state
    exact { ht with
      fillIdx := nextBuf_lt (Nat.zero_lt_of_lt two_le_txPool) _
      running := fun h => nomatch state.symm.trans h
      filled := fun h => nomatch state.symm.trans h }
  | fill state phase fill =>
    obtain ⟨ht, htxs, hfilled⟩ := hs.fill (by rw [state]; nofun) fill
    exact ht.setPhase (fun _ => htxs ▸ hfilled) nofun
  | fatal | ignore | badCount => exact { hs with }
  | sent inWait inflight queue state => exact hs.txSent _ inflight state
  | hand e state phase => exact hs.txHand e state phase
  | close => exact hs.txClose

end TxPoolInv

/-! The RX pool. -/

namespace RxPoolInv

variable {s t : State}

theorem same (hs : RxPoolInv s) (h : SameSched s t) : RxPoolInv t where
  owner := by rw [h.rxPool, h.rxs]; exact hs.owner
  wrIdx := by rw [h.rxs]; exact hs.wrIdx
  pending := by rw [h.rxs]; exact hs.pending
  rdIdx := by rw [h.rxs]; exact hs.rdIdx
  running := by rw [h.rxs]; exact hs.running
  quiet := by rw [h.rxs]; exact hs.quiet
  session := by rw [h.rxs]; exact hs.session

theorem sched (hs : RxPoolInv s) (h : SchedEffect s t) : RxPoolInv t := by
  cases h with
  | keep => exact hs
  | rebindRx dec idle => exact { hs with session := fun h => absurd idle h }
  | rebindTx | txBegin | txStop | rxStop => exact { hs with }
  | rxBegin n idle length bound =>
    exact {
      owner := owner_reclaimAll hs.owner
      wrIdx := Nat.zero_lt_of_lt two_le_rxPool
      pending := rfl
      rdIdx := Nat.zero_lt_of_lt two_le_rxPool
      running := nofun
      quiet := fun _ => ⟨rfl, rfl⟩
      session := fun _ => ⟨bound, length⟩ }

theorem rxClosed (hs : RxPoolInv s) (d : DecUnit) : RxPoolInv (rxClosed d s) := by
  refine RxPoolInv.same ?_ (rxClosed_sched d s)
  exact {
    owner := owner_reclaimAll hs.owner
    wrIdx := hs.wrIdx
    pending := rfl
    rdIdx := hs.wrIdx
    running := nofun
    quiet := fun _ => ⟨rfl, rfl⟩
    session := fun h => absurd rfl h }

/-- No buffer is armed and none is pending where RXS is about to trigger. -/
theorem free_of_phase (hs : RxPoolInv s) (state : s.rxs.state = .running) (wait : s.rxs.phase ≠ .wait)
    (dispatch : s.rxs.phase ≠ .dispatch) : s.rxs.armedBuf = none ∧ s.rxs.pending = 0 := by
  obtain ⟨harmed, hpending⟩ := hs.running state
  exact ⟨harmed.trans (if_neg wait), hpending.trans (if_neg dispatch)⟩

theorem rxStep (hs : RxPoolInv s) (h : RxEffect s t) : RxPoolInv t := by
  cases h with
  | stay => exact hs
  | stop state =>
    have hfree : s.rxs.armedBuf = none ∧ s.rxs.pending = 0 := by
      rcases state with h | ⟨h, hphase⟩
      · exact hs.quiet (by rw [h]; nofun)
      · exact hs.free_of_phase h (by rw [hphase]; nofun) (by rw [hphase]; nofun)
    have hsession : s.rxs.state ≠ .idle := by rcases state with h | ⟨h, -⟩ <;> rw [h] <;> nofun
    exact { hs with running := nofun, quiet := fun _ => hfree, session := fun _ => hs.session hsession }
  | run state =>
    have hfree := hs.quiet (by rw [state]; nofun)
    exact { hs with
      running := fun _ => hfree
      quiet := fun h => absurd rfl h
      session := fun _ => hs.session (by rw [state]; nofun) }
  | check state phase =>
    have hfree := hs.free_of_phase state (by rw [phase]; nofun) (by rw [phase]; nofun)
    exact { hs with running := fun _ => hfree }
  | resume x state phase armed =>
    exact absurd (hs.free_of_phase state (by rw [phase]; nofun) (by rw [phase]; nofun)).1 armed
  | trigger state phase =>
    obtain ⟨harmed, hpending⟩ := hs.free_of_phase state (by rw [phase]; nofun) (by rw [phase]; nofun)
    exact { hs with
      owner := owner_lend _ (harmed ▸ hs.owner)
      running := fun _ => ⟨rfl, hpending⟩
      quiet := fun h => absurd state h }
  | ignore | badCount | badRead | badChunk => exact { hs with }
  | captured state phase armed =>
    obtain ⟨-, hpending⟩ := hs.running state
    rw [if_neg (by rw [phase]; nofun)] at hpending
    have hwr := hs.pending
    rw [if_pos hpending] at hwr
    exact { hs with
      owner := owner_return (armed ▸ hs.owner)
      wrIdx := nextBuf_lt (Nat.zero_lt_of_lt two_le_rxPool) _
      pending := congrArg (nextBuf Config.rxPool) hwr
      running := fun _ => ⟨rfl, congrArg (· + 1) hpending⟩
      quiet := fun h => absurd state h }
  | dispatch state phase parse =>
    have hsame := decParse_sameSched parse
    have ht := hs.same hsame
    rw [← hsame.rxs] at state phase
    obtain ⟨harmed, hpending⟩ := ht.running state
    rw [if_neg (by rw [phase]; nofun)] at harmed
    rw [if_pos phase] at hpending
    have hwr := ht.pending
    rw [hpending] at hwr
    have hdone : (rxDispatched _).rxs.pending = 0 := congrArg (· - 1) hpending
    exact { ht with
      pending := hwr.trans (if_pos hdone).symm
      rdIdx := nextBuf_lt (Nat.zero_lt_of_lt two_le_rxPool) _
      running := fun _ => ⟨harmed, hdone⟩
      quiet := fun h => absurd state h }
  | close d => exact hs.rxClosed d

theorem timer (hs : RxPoolInv s) (h : TimerEffect s t) : RxPoolInv t := by
  cases h with
  | stay => exact hs
  | timeout state phase queue armed =>
    obtain ⟨-, hpending⟩ := hs.running state
    rw [if_neg (by rw [phase]; nofun)] at hpending
    exact { hs with
      owner := owner_return (armed ▸ hs.owner)
      running := fun _ => ⟨rfl, hpending⟩
      quiet := fun h => absurd state h }
  | unarmed state phase free =>
    obtain ⟨-, hpending⟩ := hs.running state
    rw [if_neg (by rw [phase]; nofun)] at hpending
    exact { hs with
      owner := free ▸ hs.owner
      running := fun _ => ⟨rfl, hpending⟩
      quiet := fun h => absurd state h }
  | forceTx => exact { hs with }
  | forceRx d =>
    have hforced : RxPoolInv { s with rxs := { s.rxs with forced := true } } := { hs with }
    exact hforced.rxClosed d

end RxPoolInv

/-! Both pools under every move. -/

variable {s t : State}

theorem rxClosed_txPoolInv (hs : TxPoolInv s) (d : DecUnit) : TxPoolInv (rxClosed d s) := by
  have habort : TxPoolInv s.abortArmed := by
    unfold State.abortArmed
    split
    · exact { hs with }
    · exact hs
  refine TxPoolInv.same ?_ (rxClosed_sched d s)
  exact { habort with }

theorem RxEffect.txPoolInv (h : RxEffect s t) (hs : TxPoolInv s) : TxPoolInv t := by
  cases h with
  | stay => exact hs
  | stop | run | check | resume | trigger | ignore | badCount | captured | badRead | badChunk => exact { hs with }
  | dispatch _ _ parse => exact { hs.same (decParse_sameSched parse) with }
  | close d => exact rxClosed_txPoolInv hs d

theorem TimerEffect.txPoolInv (h : TimerEffect s t) (hs : TxPoolInv s) : TxPoolInv t := by
  cases h with
  | stay => exact hs
  | timeout | unarmed => exact { hs with }
  | forceTx =>
    have hforced : TxPoolInv { s with txs := { s.txs with forced := true } } := { hs with }
    exact hforced.txClose
  | forceRx d =>
    have hforced : TxPoolInv { s with rxs := { s.rxs with forced := true } } := { hs with }
    exact rxClosed_txPoolInv hforced d

theorem TxEffect.rxPoolInv (h : TxEffect s t) (hs : RxPoolInv s) : RxPoolInv t := by
  cases h with
  | stay => exact hs
  | stop | arm | run | check | skip | pace | proceed | fatal | ignore | badCount | sent | hand | close =>
    exact { hs with }
  | preload _ fill =>
    obtain ⟨q, pool, hsame, rfl, -⟩ := txFill_filled fill
    exact { hs.same hsame with }
  | fill _ _ fill =>
    obtain ⟨q, pool, hsame, rfl, -⟩ := txFill_filled fill
    exact { hs.same hsame with }

theorem TxPoolInv.move (hs : TxPoolInv s) (h : MoveEffect s t) : TxPoolInv t := by
  cases h with
  | host before command after =>
    obtain ⟨r, hsched, hsame⟩ := command.sched
    exact ((hs.same before.sameSched).sched hsched).same (hsame.trans after.sameSched)
  | tx h => exact hs.txStep h
  | rx h => exact h.txPoolInv hs
  | timer h => exact h.txPoolInv hs
  | ports h =>
    obtain ⟨evIn, evOut, txQueue, rxQueue, txHas, rxHas, txGrant, rxGrant, line, txBusy, rxBusy, rfl⟩ := h
    exact { hs with }
  | latch | rxWrite => exact { hs with }
  | txWrite h => exact { hs with owner := h.owner.trans hs.owner }
  | reset => exact { txPoolInv_reset with }

theorem RxPoolInv.move (hs : RxPoolInv s) (h : MoveEffect s t) : RxPoolInv t := by
  cases h with
  | host before command after =>
    obtain ⟨r, hsched, hsame⟩ := command.sched
    exact ((hs.same before.sameSched).sched hsched).same (hsame.trans after.sameSched)
  | tx h => exact h.rxPoolInv hs
  | rx h => exact hs.rxStep h
  | timer h => exact hs.timer h
  | ports h =>
    obtain ⟨evIn, evOut, txQueue, rxQueue, txHas, rxHas, txGrant, rxGrant, line, txBusy, rxBusy, rfl⟩ := h
    exact { hs with }
  | latch | txWrite => exact { hs with }
  | rxWrite h => exact { hs with owner := h.owner.trans hs.owner }
  | reset => exact { rxPoolInv_reset with }

/-- A session has its unit bound, so the one reason for the model to stop does not arise. -/
theorem not_sessionUnbound (htx : TxPoolInv s) (hrx : RxPoolInv s) : ¬ SessionUnbound s := by
  rintro (⟨hstate, hunit⟩ | ⟨hstate, hunit⟩)
  · exact (htx.session hstate).1 hunit
  · exact (hrx.session hstate).1 hunit

/-- Settles O14: a move ends in a next state, for a session has its unit bound, and each of its effects keeps the invariants
of both pools; the end of a move changes the agenda only. -/
theorem everyStepKeepsThePoolInvariants : Obligations.EveryStepKeepsThePoolInvariants := by
  intro s htx hrx
  rcases moveStep_effect (nextMove s) s with ⟨t, hmove, heffect⟩ | ⟨hunbound, -⟩
  · refine ⟨endMove s t, ?_, { htx.move heffect with }, { hrx.move heffect with }⟩
    rw [step, hmove]
  · exact absurd hunbound (not_sessionUnbound htx hrx)

end Sys2Proof.Machine
end

section
/-! The playback encoder (43_encoders.md R240, R243): the sound it plays by the place it has reached, and the load of a
sound into PBM. -/

namespace Sys2Proof.Machine

namespace EncWav

/-- The encoder about to play sample `i` of its sound, or to see its end. -/
def playingAt (u : EncWav) (i : Nat) : EncWav := { u with pbIdx := BitVec.ofNat 32 i, pbDone := false }

/-- The encoder that has seen the end of its sound. -/
def ended (u : EncWav) : EncWav := { u with pbIdx := u.pbCount, pbDone := true }

/-- Sample `k` of the sound in the playback memory, rescaled (R243). -/
def soundSample (pbm : List Host.Cell) (u : EncWav) (k : Nat) : Sample :=
  if u.pbBits = 8 then rescale8 (pbmByte pbm k) else rescale16 (pbmByte pbm (2 * k)) (pbmByte pbm (2 * k + 1))

variable (pbm : List Host.Cell) (u : EncWav)

theorem playingAt_zero (hidx : u.pbIdx = 0) (hdone : u.pbDone = false) : u.playingAt 0 = u := by
  obtain ⟨⟩ := u
  simp_all [playingAt]

/-- Within the sound: one sample, and on to the next (R243). -/
theorem sample_playingAt {i : Nat} (hi : i < u.pbCount.toNat) :
    (u.playingAt i).sample pbm = (u.soundSample pbm i, u.playingAt (i + 1)) := by
  have hcount := u.pbCount.isLt
  have hidx : (BitVec.ofNat 32 i).toNat = i := Nat.mod_eq_of_lt (by omega)
  have hne : BitVec.ofNat 32 i ≠ u.pbCount := fun h => by rw [← h, hidx] at hi; omega
  have hend : (u.playingAt i).atEnd = u.playingAt i := if_neg fun h => hne h.2
  have hnext : BitVec.ofNat 32 i + 1 = BitVec.ofNat 32 (i + 1) := (BitVec.ofNat_add i 1).symm
  simp only [sample, hend]
  simp only [playingAt, soundSample, hidx, hnext, Bool.false_eq_true, if_false]

/-- At the end of a sound that repeats: its first sample again (R243). -/
theorem sample_wraps (hrep : u.rep = true) (hcount : 0 < u.pbCount.toNat) :
    (u.playingAt u.pbCount.toNat).sample pbm = (u.soundSample pbm 0, u.playingAt 1) := by
  have hwrap : (u.playingAt u.pbCount.toNat).atEnd = (u.playingAt 0).atEnd := by
    simp [atEnd, playingAt, hrep, hcount]
  rw [← Nat.zero_add 1, ← u.sample_playingAt pbm hcount]
  simp only [sample, hwrap]

/-- At the end of a sound that does not repeat, or is empty: the idle level (R243). -/
theorem sample_ends (hlast : u.rep = false ∨ u.pbCount.toNat = 0) :
    (u.playingAt u.pbCount.toNat).sample pbm = (u.lvl0, u.ended) := by
  have hstop : ¬(u.rep = true ∧ 0 < u.pbCount.toNat) := by
    rintro ⟨hrep, hcount⟩
    rcases hlast with h | h
    · rw [h] at hrep; cases hrep
    · omega
  have hend : (u.playingAt u.pbCount.toNat).atEnd = u.ended := by
    simp only [atEnd, playingAt, BitVec.ofNat_toNat, BitVec.setWidth_eq, and_self, if_true, if_neg hstop, ended]
  simp only [sample, hend]
  rfl

theorem sample_ended : u.ended.sample pbm = (u.lvl0, u.ended) := rfl

theorem after_ended (n : Nat) : u.ended.after pbm n = u.ended := by
  induction n with
  | zero => rfl
  | succ n ih => rw [EncWav.after, sample_ended, ih]

/-- A sound that does not repeat, or is empty: its samples from `i` on, then the idle level. -/
theorem sample_after_once (hlast : u.rep = false ∨ u.pbCount.toNat = 0) (n : Nat) {i : Nat} (hi : i ≤ u.pbCount.toNat) :
    (((u.playingAt i).after pbm n).sample pbm).1 =
      if i + n < u.pbCount.toNat then u.soundSample pbm (i + n) else u.lvl0 := by
  induction n generalizing i with
  | zero =>
    rw [EncWav.after, Nat.add_zero]
    split
    · rename_i hlt
      rw [sample_playingAt pbm u hlt]
    · obtain rfl : i = u.pbCount.toNat := by omega
      rw [sample_ends pbm u hlast]
  | succ n ih =>
    rw [EncWav.after]
    rcases Nat.lt_or_eq_of_le hi with hlt | rfl
    · rw [sample_playingAt pbm u hlt, ih hlt, Nat.succ_add_eq_add_succ]
    · rw [sample_ends pbm u hlast, after_ended, sample_ended, if_neg (by omega)]

/-- A sound that repeats: its samples from `i` on, round and round. -/
theorem sample_after_repeating (hrep : u.rep = true) (hcount : 0 < u.pbCount.toNat) (n : Nat) {i : Nat}
    (hi : i ≤ u.pbCount.toNat) :
    (((u.playingAt i).after pbm n).sample pbm).1 = u.soundSample pbm ((i + n) % u.pbCount.toNat) := by
  induction n generalizing i with
  | zero =>
    rw [EncWav.after, Nat.add_zero]
    rcases Nat.lt_or_eq_of_le hi with hlt | rfl
    · rw [sample_playingAt pbm u hlt, Nat.mod_eq_of_lt hlt]
    · rw [sample_wraps pbm u hrep hcount, Nat.mod_self]
  | succ n ih =>
    rw [EncWav.after]
    rcases Nat.lt_or_eq_of_le hi with hlt | rfl
    · rw [sample_playingAt pbm u hlt, ih hlt, Nat.succ_add_eq_add_succ]
    · rw [sample_wraps pbm u hrep hcount, ih hcount, Nat.add_mod_left, Nat.add_comm 1 n]

/-- What an 8-bit sample is, of a byte the playback memory holds (R66, R243). -/
theorem soundSample_8 {k : Nat} {b : Byte} (hbits : u.pbBits = 8) (hb : Memory.read pbm k = some b) :
    u.soundSample pbm k = BitVec.ofNat 16 (b.toNat * 1024 / 256) := by
  simp [soundSample, hbits, pbmByte, hb, rescale8]

/-- What a 16-bit sample is, of two bytes the playback memory holds, the low one first (R67, R243). -/
theorem soundSample_16 {k : Nat} {lo hi : Byte} (hbits : u.pbBits = 16) (hlo : Memory.read pbm (2 * k) = some lo)
    (hhi : Memory.read pbm (2 * k + 1) = some hi) :
    u.soundSample pbm k = BitVec.ofNat 16 (((hi ++ lo : BitVec 16).toInt + 32768) * 1024 / 65536).toNat := by
  simp [soundSample, hbits, pbmByte, hlo, hhi, rescale16]

end EncWav

/-- Settles O42: sample `n` from the start of the sound, once (`sample_after_once`) or repeated
(`sample_after_repeating`). -/
theorem playbackRescalesTheSound : Obligations.PlaybackRescalesTheSound := by
  intro u pbm n hidx hdone v count plays
  have hstart : v = (((u.playingAt 0).after pbm n).sample pbm).1 := by rw [u.playingAt_zero hidx hdone]
  have hplays : ∀ k, v = u.soundSample pbm k → plays k := fun k hk =>
    ⟨fun b hbits hb => hk.trans (u.soundSample_8 pbm hbits hb),
      fun lo hi hbits hlo hhi => hk.trans (u.soundSample_16 pbm hbits hlo hhi)⟩
  have honce : u.rep = false ∨ count = 0 → v = if n < count then u.soundSample pbm n else u.lvl0 := fun hlast => by
    rw [hstart, u.sample_after_once pbm hlast n (Nat.zero_le _), Nat.zero_add]
  refine ⟨fun hrep => ⟨fun hn => hplays n ?_, fun hn => ?_⟩, fun hrep hcount => hplays _ ?_, fun hempty => ?_⟩
  · rw [honce (.inl hrep), if_pos hn]
  · rw [honce (.inl hrep), if_neg (Nat.not_lt.2 hn)]
  · rw [hstart, u.sample_after_repeating pbm hrep hcount n (Nat.zero_le _), Nat.zero_add]
  · rw [honce (.inr hempty), if_neg (by omega)]

/-- An accepted `PB_LOAD` (R240). -/
theorem execPbLoad_accepted (format channels bits : BitVec 16) {data : List Byte} {s : State}
    (hadm : Admits s (.enc .wav) .idle ∨ Admits s (.enc .wav) .config) (hlen : data.length ≤ 1048576) :
    execPbLoad format channels bits data s =
      .next (State.respond
        { s with
          encWav := { s.encWav with pbFormat := format, pbChannels := channels, pbBits := bits,
                                    pbBytes := BitVec.ofNat 32 data.length,
                                    plug := { s.encWav.plug with ready := false } },
          pbm := Memory.writeFrom s.pbm 0 data } .ok 0 []) := by
  have hrun : s.halted = false := hadm.elim (·.running) (·.running)
  have hfree : s.busy (.enc .wav) = false := hadm.elim (·.free) (·.free)
  have hstate := hadm.imp (·.state) (·.state)
  exact pluginCommand_done hrun (.inr hfree) (decide_eq_true hstate) (if_neg (Nat.not_lt.2 hlen))

/-- Settles O43: the accepted command, then the laws of consecutive writes to a memory. -/
theorem pbLoadStoresTheSound : Obligations.PbLoadStoresTheSound := by
  intro format channels bits data s hadm hlen
  refine ⟨_, execPbLoad_accepted format channels bits hadm hlen, rfl, rfl, fun k hk => ?_, fun a ha => ?_, fun v hv => ?_,
    rfl, rfl⟩
  · rw [← Memory.read_writeFrom_at s.pbm 0 data k hk, Nat.zero_add]
    rfl
  · exact Memory.read_writeFrom_above s.pbm data (by omega)
  · rcases v with (_ | _ | _ | _) | (_ | _ | _ | _ | _) <;> first | exact absurd rfl hv | rfl

end Sys2Proof.Machine
end

section
/-! TRANSPORT's buffers: the hand-over of TXS, and what TRANSPORT may touch (20_memory.md R62, R63; 44_scheduler.md R273;
70_reset_and_hazards.md R354). -/

namespace Sys2Proof.Machine

/-! The hand-over (R273). -/

theorem txsStep_hand {s : State} {e : EncUnit} (hrun : s.halted = false) (hstate : s.txs.state = .running)
    (hphase : s.txs.phase = .hand) (hbound : s.txs.enc = some e) : txsStep s = .next (txHand e s) := by
  simp [txsStep, txRunning, hrun, hstate, hphase, hbound]

/-- A hand-over of one buffer changes that buffer's owner alone. -/
theorem owner_setOwner_getElem? (pool : List PoolBuf) {i j : Nat} (o : Owner) (hj : j < pool.length) :
    ((setOwner pool i o)[j]?).map (·.owner) = if j = i then some o else (pool[j]?).map (·.owner) := by
  by_cases h : j = i
  · subst h
    simp [setOwner, hj]
  · simp [setOwner, h, Ne.symm h]

/-- The pacing of a hand-over whose sums 64 bits hold: a quotient and its remainder (R273). -/
theorem Txs.hand_pacing (x : Txs) {rate : Nat} (hrate : rate ≠ 0)
    (hdue : x.dueNs.toNat + (x.dueRem.toNat + x.n.toNat * 1000000000) / rate < 2 ^ 64) (hword : rate < 2 ^ 32) :
    (x.hand rate).dueNs.toNat = x.dueNs.toNat + (x.dueRem.toNat + x.n.toNat * 1000000000) / rate ∧
      (x.hand rate).dueRem.toNat = (x.dueRem.toNat + x.n.toNat * 1000000000) % rate := by
  have hrem := Nat.mod_lt (x.dueRem.toNat + x.n.toNat * 1000000000) (Nat.pos_of_ne_zero hrate)
  simp only [Txs.hand, if_neg hrate, Txs.pace, if_pos hdue, BitVec.toNat_ofNat]
  exact ⟨Nat.mod_eq_of_lt hdue, Nat.mod_eq_of_lt (hrem.trans hword)⟩

/-- Settles O55: the step is the hand-over, whose registers the two pacing rules complete. -/
theorem txHandsABufferOver : Obligations.TxHandsABufferOver := by
  intro e s hrun hstate hphase hbound _
  refine ⟨txHand e s, txsStep_hand hrun hstate hphase hbound, rfl, setOwner_samples .., fun j hj =>
    owner_setOwner_getElem? _ _ hj, fun v => ?_, rfl, rfl, rfl, ?_, fun hrate => ?_, fun hrate hdue hword => ?_⟩
  · rcases v with (_ | _ | _ | _) | (_ | _ | _ | _ | _) <;> rfl
  · obtain ⟨dueNs, dueRem, hregs⟩ := s.txs.hand_regs ((s.plug (.enc e)).num idSamplingRate)
    have htxs : (txHand e s).txs = _ := hregs
    rw [htxs]
    rfl
  · have htxs : (txHand e s).txs = s.txs.hand 0 := congrArg s.txs.hand hrate
    rw [htxs]
    exact ⟨rfl, rfl⟩
  · exact s.txs.hand_pacing hrate hdue hword

/-! TRANSPORT's accesses, by what it has (R62). -/

section LineAccess

variable {pool : List PoolBuf} {n j i : Nat} {lent : Bool} {b : PoolBuf} {v : Sample}

theorem lineRead_absent (h : pool.length ≤ j) : lineRead pool n lent j i = .error .index := by
  simp [lineRead, bufRead, Nat.not_lt.2 h]

theorem lineWrite_absent (h : pool.length ≤ j) : lineWrite pool n lent j i v = .error .index := by
  simp [lineWrite, bufWrite, Nat.not_lt.2 h]

theorem lineRead_notIts (hb : pool[j]? = some b) (h : b.owner = .sched ∨ lent = false) :
    lineRead pool n lent j i = .error .ownership := by
  have hj := (List.getElem?_eq_some_iff.1 hb).1
  cases lent with
  | false => simp [lineRead, hj]
  | true => simp [lineRead, bufRead, hb, h.resolve_right]

theorem lineWrite_notIts (hb : pool[j]? = some b) (h : b.owner = .sched ∨ lent = false) :
    lineWrite pool n lent j i v = .error .ownership := by
  have hj := (List.getElem?_eq_some_iff.1 hb).1
  cases lent with
  | false => simp [lineWrite, hj]
  | true => simp [lineWrite, bufWrite, hb, h.resolve_right]

theorem lineRead_its (hb : pool[j]? = some b) (howner : b.owner = .transport) :
    lineRead pool n true j i = if i < n then .ok (Memory.read b.samples i) else .error .index := by
  simp [lineRead, bufRead, hb, howner]

theorem lineWrite_its (hb : pool[j]? = some b) (howner : b.owner = .transport) :
    lineWrite pool n true j i v =
      if i < n then .ok (pool.set j { b with samples := Memory.write b.samples i v }) else .error .index := by
  simp [lineWrite, bufWrite, hb, howner]

end LineAccess

section Accesses

variable {s : State} {j i : Nat} {v : Sample}

/-- The state after an access that raises `c`. -/
theorem transportRead_error {c : FatalCode} (hrun : s.halted = false)
    (h : lineRead s.txPool s.txs.n.toNat (s.txLent j) j i = .error c) :
    transportRead j i s = { s with halted := true, fatalCode := c.code } := by
  rw [transportRead, h, ← raiseFatal_eq hrun]

theorem transportTxWrite_error {c : FatalCode} (hrun : s.halted = false)
    (h : lineWrite s.txPool s.txs.n.toNat (s.txLent j) j i v = .error c) :
    transportTxWrite j i v s = { s with halted := true, fatalCode := c.code } := by
  rw [transportTxWrite, h, ← raiseFatal_eq hrun]

theorem transportWrite_error {c : FatalCode} (hrun : s.halted = false)
    (h : lineWrite s.rxPool s.rxs.n.toNat (s.rxLent j) j i v = .error c) :
    transportWrite j i v s = { s with halted := true, fatalCode := c.code } := by
  rw [transportWrite, h, ← raiseFatal_eq hrun]

theorem transportRxRead_error {c : FatalCode} (hrun : s.halted = false)
    (h : lineRead s.rxPool s.rxs.n.toNat (s.rxLent j) j i = .error c) :
    transportRxRead j i s = { s with halted := true, fatalCode := c.code } := by
  rw [transportRxRead, h, ← raiseFatal_eq hrun]

/-- TRANSPORT's two accesses to a TX buffer that exists. -/
theorem txAccess (hrun : s.halted = false) {b : PoolBuf} (hb : s.txPool[j]? = some b) :
    (b.owner = .sched ∨ s.txLent j = false →
      transportRead j i s = { s with halted := true, fatalCode := 5 } ∧
      transportTxWrite j i v s = { s with halted := true, fatalCode := 5 }) ∧
    (b.owner = .transport → s.txLent j = true →
      (s.txs.n.toNat ≤ i →
        transportRead j i s = { s with halted := true, fatalCode := 4 } ∧
        transportTxWrite j i v s = { s with halted := true, fatalCode := 4 }) ∧
      (i < s.txs.n.toNat → Memory.read b.samples i = some v →
        transportRead j i s = { s with line := s.line ++ [v] }) ∧
      (i < s.txs.n.toNat → ∃ b', transportTxWrite j i v s = { s with txPool := s.txPool.set j b' } ∧
        b'.owner = .transport ∧ Memory.read b'.samples i = some v ∧
        ∀ k, k ≠ i → Memory.read b'.samples k = Memory.read b.samples k)) := by
  refine ⟨fun h => ?notIts, fun howner hlent => ⟨fun hi => ?index, fun hi hv => ?read, fun hi => ?write⟩⟩
  case notIts => exact ⟨transportRead_error hrun (lineRead_notIts hb h), transportTxWrite_error hrun (lineWrite_notIts hb h)⟩
  case index =>
    have hread := lineRead_its (n := s.txs.n.toNat) (i := i) hb howner
    have hwrite := lineWrite_its (n := s.txs.n.toNat) (i := i) (v := v) hb howner
    rw [if_neg (Nat.not_lt.2 hi), ← hlent] at hread hwrite
    exact ⟨transportRead_error hrun hread, transportTxWrite_error hrun hwrite⟩
  case read => rw [transportRead, hlent, lineRead_its hb howner, if_pos hi, hv]; rfl
  case write =>
    refine ⟨{ b with samples := Memory.write b.samples i v }, ?_, howner, Memory.read_write_same ..,
      fun k hk => Memory.read_write_other _ _ hk⟩
    rw [transportTxWrite, hlent, lineWrite_its hb howner, if_pos hi]

/-- TRANSPORT's two accesses to an RX buffer that exists. -/
theorem rxAccess (hrun : s.halted = false) {b : PoolBuf} (hb : s.rxPool[j]? = some b) :
    (b.owner = .sched ∨ s.rxLent j = false →
      transportWrite j i v s = { s with halted := true, fatalCode := 5 } ∧
      transportRxRead j i s = { s with halted := true, fatalCode := 5 }) ∧
    (b.owner = .transport → s.rxLent j = true →
      (s.rxs.n.toNat ≤ i →
        transportWrite j i v s = { s with halted := true, fatalCode := 4 } ∧
        transportRxRead j i s = { s with halted := true, fatalCode := 4 }) ∧
      (i < s.rxs.n.toNat → Memory.read b.samples i = some v →
        transportRxRead j i s = { s with line := s.line ++ [v] }) ∧
      (i < s.rxs.n.toNat → ∃ b', transportWrite j i v s = { s with rxPool := s.rxPool.set j b' } ∧
        b'.owner = .transport ∧ Memory.read b'.samples i = some v ∧
        ∀ k, k ≠ i → Memory.read b'.samples k = Memory.read b.samples k)) := by
  refine ⟨fun h => ?notIts, fun howner hlent => ⟨fun hi => ?index, fun hi hv => ?read, fun hi => ?write⟩⟩
  case notIts => exact ⟨transportWrite_error hrun (lineWrite_notIts hb h), transportRxRead_error hrun (lineRead_notIts hb h)⟩
  case index =>
    have hread := lineRead_its (n := s.rxs.n.toNat) (i := i) hb howner
    have hwrite := lineWrite_its (n := s.rxs.n.toNat) (i := i) (v := v) hb howner
    rw [if_neg (Nat.not_lt.2 hi), ← hlent] at hread hwrite
    exact ⟨transportWrite_error hrun hwrite, transportRxRead_error hrun hread⟩
  case read => rw [transportRxRead, hlent, lineRead_its hb howner, if_pos hi, hv]; rfl
  case write =>
    refine ⟨{ b with samples := Memory.write b.samples i v }, ?_, howner, Memory.read_write_same ..,
      fun k hk => Memory.read_write_other _ _ hk⟩
    rw [transportWrite, hlent, lineWrite_its hb howner, if_pos hi]

end Accesses

/-! What TRANSPORT has (R354 (1)). -/

/-- A loan ended for one buffer leaves every other buffer as it was. -/
theorem lent_endLoan (buf : Byte) (has : Option Byte) (j : Nat) :
    decide ((endLoan buf has).map (·.toNat) = some j) =
      (decide (has.map (·.toNat) = some j) && decide (j ≠ buf.toNat)) := by
  unfold endLoan
  split
  · rename_i h
    subst h
    by_cases hj : buf.toNat = j
    · simp [hj]
    · simp [hj]
  · rename_i h
    cases has with
    | none => simp
    | some x =>
      have hne : x.toNat ≠ buf.toNat := fun hx => h (congrArg some (BitVec.eq_of_toNat_eq hx))
      by_cases hj : x.toNat = j
      · subst hj; simp [hne]
      · simp [hj]

/-- A loan of buffer `j` is of no other. -/
theorem lent_some {j : Nat} (hj : j < 256) (k : Nat) :
    decide ((some (BitVec.ofNat 8 j)).map (·.toNat) = some k) = decide (k = j) := by
  rw [Option.map_some, BitVec.toNat_ofNat, Nat.mod_eq_of_lt hj, decide_eq_decide, Option.some.injEq, eq_comm]

/-- Settles O60: the accesses by what TRANSPORT has (`txAccess`, `rxAccess`), and what the words of the event port and PLCPHY's
emissions make of it. -/
theorem transportMayTouchOnlyItsBuffer : Obligations.TransportMayTouchOnlyItsBuffer := by
  refine ⟨fun s j i v b hrun hb => txAccess hrun hb, fun s j i v b hrun hb => rxAccess hrun hb,
    fun s j i v hrun => ⟨fun h => ?absentTx, fun h => ?absentRx⟩, fun s buf count => ⟨?sent, ?captured, ?send, ?capture, ?abort⟩,
    fun s j n hj => ⟨fun k => lent_some hj k, fun k => lent_some hj k, fun k => ?aborted⟩⟩
  case absentTx => exact ⟨transportRead_error hrun (lineRead_absent h), transportTxWrite_error hrun (lineWrite_absent h)⟩
  case absentRx => exact ⟨transportWrite_error hrun (lineWrite_absent h), transportRxRead_error hrun (lineRead_absent h)⟩
  case sent => exact ⟨_, rfl, fun j => lent_endLoan buf s.txHas j⟩
  case captured => exact ⟨_, rfl, fun j => lent_endLoan buf s.rxHas j⟩
  case send => exact ⟨_, rfl, rfl⟩
  case capture => exact ⟨_, rfl, rfl⟩
  case abort => exact ⟨_, rfl, rfl⟩
  case aborted =>
    have hbuf : (BitVec.ofNat 8 j).toNat = j := Nat.mod_eq_of_lt hj
    have hlent := lent_endLoan (BitVec.ofNat 8 j) s.rxHas k
    rw [hbuf] at hlent
    exact hlent

end Sys2Proof.Machine
end

section
/-! A step of a scheduler halts PLCPHY on an event with a wrong count only (44_scheduler.md R272, R274, R284;
60_exceptions.md R305). -/

namespace Sys2Proof.Machine

variable {s t : State}

/-! Whose a buffer is, from the owners of its pool. -/

theorem buffer_of_owners {pool : List PoolBuf} {size j : Nat} {held : Option Nat}
    (h : pool.map (·.owner) = owners size held) (hj : j < size) :
    ∃ b, pool[j]? = some b ∧ b.owner = if held = some j then .transport else .sched := by
  have hlt : j < pool.length := by rw [length_of_owners h]; exact hj
  have howner : (pool.map (·.owner))[j]? = (owners size held)[j]? := by rw [h]
  refine ⟨pool[j], List.getElem?_eq_getElem hlt, ?_⟩
  simpa [owners, hlt, hj] using howner

/-! Filling never fails. -/

/-- The buffer `fill_idx` is the scheduler's while TXS fills (R276). -/
theorem TxPoolInv.fillIdx_ne_inflight (hs : TxPoolInv s) (state : s.txs.state = .preloading ∨ s.txs.state = .running) :
    s.txs.inflight ≠ some s.txs.fillIdx := by
  rcases state with h | h
  · rw [hs.starting (.inl h)]; nofun
  · exact hs.running h

theorem txFill_not_fatal (hs : TxPoolInv s) (state : s.txs.state = .preloading ∨ s.txs.state = .running)
    (c : FatalCode) : txFill s.txs.fillIdx s ≠ .fatal c := by
  obtain ⟨b, hb, howner⟩ := buffer_of_owners hs.owner hs.fillIdx
  rw [if_neg (hs.fillIdx_ne_inflight state)] at howner
  intro h
  unfold txFill at h
  split at h
  · cases h
  · rename_i e _
    have hsame := encSamples_sameSched e s.txs.n.toNat s
    obtain ⟨hlen, -⟩ := encSamples_frame e s.txs.n.toNat s
    obtain ⟨pool, hpool⟩ := bufWriteAll_succeeds (n := s.txs.n.toNat) hb howner (encSamples e s.txs.n.toNat s).1 0
      (by rw [hlen, Nat.zero_add])
    rw [encPrepare_of_le le_rfl] at h
    dsimp only at h
    rw [hsame.txPool, hsame.txs, hpool] at h
    cases h

theorem txFill_halted {j : Nat} (h : txFill j s = .filled t) : t.halted = s.halted := by
  unfold txFill at h
  split at h
  · cases h
  · rename_i e _
    obtain ⟨-, -, a, b, c, d, f, heq⟩ := encSamples_frame e s.txs.n.toNat s
    rw [encPrepare_of_le le_rfl] at h
    dsimp only at h
    split at h
    · cases h
    · cases h
      rw [heq]

/-- What a scheduler finds when it halts PLCPHY: a buffer is in flight or armed, and the event at the head of its queue has
a wrong count. -/
def CountMismatch (held : Option Nat) (queue : List Word) (n : BitVec 16) : Prop :=
  ∃ j ev rest, held = some j ∧ queue = ev :: rest ∧ ev.arg ≠ n

/-- A step of TXS that halts PLCPHY raises `F_COUNT`. -/
theorem TxEffect.halts (h : TxEffect s t) (hs : TxPoolInv s) (hrun : s.halted = false) (ht : t.halted = true) :
    t.fatalCode = 3 ∧ CountMismatch s.txs.inflight s.txQueue s.txs.n := by
  have hstays : t.halted = s.halted → t.fatalCode = 3 ∧ CountMismatch s.txs.inflight s.txQueue s.txs.n := fun h => by
    rw [h, hrun] at ht
    cases ht
  cases h with
  | stay | stop | arm | run | check | skip | pace | proceed | ignore | sent | hand | close => exact hstays rfl
  | preload _ fill => exact hstays (txFill_halted fill :)
  | fill _ _ fill => exact hstays (txFill_halted fill :)
  | fatal state fill => exact absurd fill (txFill_not_fatal hs state _)
  | badCount inflight queue _ count => exact ⟨if_neg (by simp [hrun]), _, _, _, inflight, queue, count⟩

/-! Dispatching never fails. -/

/-- Reading an owned buffer inside the session's length never fails. -/
theorem bufReadAll_succeeds {pool : List PoolBuf} {n : Nat} {who : Owner} {j : Nat} {b : PoolBuf} (tick : Nat)
    (hb : pool[j]? = some b) (ho : b.owner = who) (k i : Nat) (hi : i + k ≤ n) :
    ∃ vs, bufReadAll tick pool n who j k i = .ok vs := by
  induction k generalizing i with
  | zero => exact ⟨[], rfl⟩
  | succ k ih =>
    obtain ⟨vs, hvs⟩ := ih (i + 1) (by omega)
    have hread : bufRead pool n who j i = .ok (Memory.read b.samples i) := by
      simp [bufRead, hb, ho, show i < n by omega]
    simp only [bufReadAll, hread, hvs]
    exact ⟨_, rfl⟩

/-- The chunk to dispatch is the scheduler's, whole (R292). -/
theorem RxPoolInv.read_chunk (hs : RxPoolInv s) (state : s.rxs.state = .running) (phase : s.rxs.phase = .dispatch) :
    ∃ chunk, bufReadAll s.tick s.rxPool s.rxs.n.toNat .sched s.rxs.rdIdx s.rxs.n.toNat 0 = .ok chunk := by
  obtain ⟨b, hb, howner⟩ := buffer_of_owners hs.owner hs.rdIdx
  have harmed : s.rxs.armedBuf = none := (hs.running state).1.trans (if_neg (by rw [phase]; nofun))
  rw [if_neg (by rw [harmed]; nofun)] at howner
  exact bufReadAll_succeeds s.tick hb howner s.rxs.n.toNat 0 (Nat.zero_add _).le

theorem bufReadAll_length {tick : Nat} {pool : List PoolBuf} {n : Nat} {who : Owner} {j k i : Nat} {vs : List Sample}
    (h : bufReadAll tick pool n who j k i = .ok vs) : vs.length = k := by
  induction k generalizing i vs with
  | zero => cases h; rfl
  | succ k ih =>
    rw [bufReadAll] at h
    split at h
    · cases h
    · split at h
      · cases h
      · rename_i ws hws
        cases h
        exact congrArg (· + 1) (ih hws)

/-- A chunk of the filter's size is parsed (R207). -/
theorem decParse_succeeds {d : DecUnit} {raw : List Sample} (hlen : ∀ f, s.decFlt d = some f → raw.length = f.n.toNat)
    (c : FatalCode) : decParse d raw s ≠ .error c := by
  cases d with
  | raw => nofun
  | ook =>
    obtain ⟨g, hg⟩ := Flt.processChunk_succeeds s.decOok.core.der.off (hlen _ rfl)
    simp [decParse, DecOok.parse, hg]
  | pwm =>
    obtain ⟨g, hg⟩ := Flt.processChunk_succeeds s.decPwm.core.der.off (hlen _ rfl)
    simp [decParse, DecPwm.parse, hg]
  | morse =>
    obtain ⟨g, hg⟩ := Flt.processChunk_succeeds s.decMorse.core.der.off (hlen _ rfl)
    simp [decParse, DecMorse.parse, hg]

theorem decParse_halted {d : DecUnit} {raw : List Sample} {k : Nat} (h : decParse d raw s = .ok (t, k)) :
    t.halted = s.halted := by
  obtain ⟨-, ⟨a, b, c, rfl⟩, -⟩ := decParse_ok h
  rfl

theorem rxClosed_halted (d : DecUnit) (s : State) : (rxClosed d s).halted = s.halted :=
  (congrArg SystemRegs.halted (onlyUnit_terminateBody d s.abortArmed).system).trans (State.abortArmed_halted s)

/-- A step of RXS that halts PLCPHY raises `F_COUNT`: the decoder's filter has the session's chunk size (R281). -/
theorem RxEffect.halts (h : RxEffect s t) (hs : RxPoolInv s) (hsession : SessionInv s) (hrun : s.halted = false)
    (ht : t.halted = true) : t.fatalCode = 3 ∧ CountMismatch s.rxs.armedBuf s.rxQueue s.rxs.n := by
  have hstays : t.halted = s.halted → t.fatalCode = 3 ∧ CountMismatch s.rxs.armedBuf s.rxQueue s.rxs.n := fun h => by
    rw [h, hrun] at ht
    cases ht
  cases h with
  | stay | stop | run | check | resume | trigger | ignore | captured => exact hstays rfl
  | dispatch _ _ parse => exact hstays (decParse_halted parse :)
  | close d => exact hstays (rxClosed_halted d s)
  | badCount queue same count => exact ⟨if_neg (by simp [hrun]), _, _, _, same, queue, count⟩
  | badRead state phase read =>
    obtain ⟨chunk, hread⟩ := hs.read_chunk state phase
    rw [hread] at read
    cases read
  | badChunk state bound read parse =>
    obtain ⟨d, hd, -, hflt⟩ := hsession.rx (by rw [state]; nofun)
    obtain rfl := Option.some.inj (hd.symm.trans bound)
    exact absurd parse (decParse_succeeds (fun f hf => by rw [bufReadAll_length read, (hflt f hf).2]) _)

/-- A scheduler's step in a state that is not halted, from its effect. -/
theorem txEffect_of_txsStep (h : txsStep s = .next t) : TxEffect s t := by
  rcases txsStep_effect s with ⟨r, hr, heff⟩ | ⟨-, -, hfault⟩
  · rw [h] at hr; cases hr; exact heff
  · rw [h] at hfault; cases hfault

theorem rxEffect_of_rxsStep (h : rxsStep s = .next t) : RxEffect s t := by
  rcases rxsStep_effect s with ⟨r, hr, heff⟩ | ⟨-, -, hfault⟩
  · rw [h] at hr; cases hr; exact heff
  · rw [h] at hfault; cases hfault

theorem schedulers_raise_count (htx : TxPoolInv s) (hrx : RxPoolInv s) (hsession : SessionInv s) (hrun : s.halted = false)
    (h : txsStep s = .next t ∨ rxsStep s = .next t) (ht : t.halted = true) : t.fatalCode = 3 := by
  rcases h with h | h
  · exact ((txEffect_of_txsStep h).halts htx hrun ht).1
  · exact ((rxEffect_of_rxsStep h).halts hrx hsession hrun ht).1

end Sys2Proof.Machine
end

section
/-! PLCPHY and a TRANSPORT that keeps to R354: what TRANSPORT has or has reported is the buffer in flight or armed, and no
step but a command of HOST halts PLCPHY (70_reset_and_hazards.md R354 to R356; log entry 30). -/

namespace Sys2Proof.Machine

/-! The fields of a word of the event port (30_encoding.md R102). -/

@[simp] theorem code_fieldsWord (code unit : BitVec 8) (arg : BitVec 16) :
    Word.code (fieldsWord code unit arg) = code := by
  refine BitVec.eq_of_getLsbD_eq fun i hi => ?_
  rw [Word.code, fieldsWord, BitVec.getLsbD_extractLsb', BitVec.getLsbD_append, BitVec.getLsbD_append]
  simp [hi, show ¬ 24 + i < 16 by omega, show ¬ 24 + i - 16 < 8 by omega, show 24 + i - 16 - 8 = i by omega]

@[simp] theorem unit_fieldsWord (code unit : BitVec 8) (arg : BitVec 16) :
    Word.unit (fieldsWord code unit arg) = unit := by
  refine BitVec.eq_of_getLsbD_eq fun i hi => ?_
  rw [Word.unit, fieldsWord, BitVec.getLsbD_extractLsb', BitVec.getLsbD_append, BitVec.getLsbD_append]
  simp [hi]

@[simp] theorem arg_fieldsWord (code unit : BitVec 8) (arg : BitVec 16) :
    Word.arg (fieldsWord code unit arg) = arg := by
  refine BitVec.eq_of_getLsbD_eq fun i hi => ?_
  rw [Word.arg, fieldsWord, BitVec.getLsbD_extractLsb', BitVec.getLsbD_append]
  simp [hi]

@[simp] theorem code_eventWord (code : BitVec 8) (buf : Nat) (count : BitVec 16) :
    Word.code (eventWord code buf count) = code := code_fieldsWord ..

@[simp] theorem unit_eventWord (code : BitVec 8) (buf : Nat) (count : BitVec 16) :
    Word.unit (eventWord code buf count) = BitVec.ofNat 8 buf := unit_fieldsWord ..

@[simp] theorem arg_eventWord (code : BitVec 8) (buf : Nat) (count : BitVec 16) :
    Word.arg (eventWord code buf count) = count := arg_fieldsWord ..

/-! What TRANSPORT has after the requests under way. -/

/-- TRANSPORT has no TX buffer after the requests iff it has none before and none of them asks for one. -/
theorem txGrantAfter_eq_none {g : Option Grant} {ws : List Word} :
    txGrantAfter g ws = none ↔ g = none ∧ ∀ w ∈ ws, w.code ≠ 0x90 := by
  induction ws generalizing g with
  | nil => simp [txGrantAfter]
  | cons w ws ih =>
    change txGrantAfter (if w.code = 0x90 then some ⟨w.unit, w.arg⟩ else g) ws = none ↔ _
    rw [ih, List.forall_mem_cons]
    split
    · simp_all
    · simp_all

theorem txGrantAfter_of_none_asked {g : Option Grant} {ws : List Word} (h : ∀ w ∈ ws, w.code ≠ 0x90) :
    txGrantAfter g ws = g := by
  induction ws generalizing g with
  | nil => rfl
  | cons w ws ih =>
    obtain ⟨hw, hws⟩ := List.forall_mem_cons.1 h
    change txGrantAfter (if w.code = 0x90 then some ⟨w.unit, w.arg⟩ else g) ws = g
    rw [if_neg hw, ih hws]

theorem rxGrantAfter_of_none_asked {g : Option Grant} {ws : List Word} (h : ∀ w ∈ ws, w.code ≠ 0x91 ∧ w.code ≠ 0x92) :
    rxGrantAfter g ws = g := by
  induction ws generalizing g with
  | nil => rfl
  | cons w ws ih =>
    obtain ⟨⟨hw, hw'⟩, hws⟩ := List.forall_mem_cons.1 h
    change rxGrantAfter (if w.code = 0x91 then some ⟨w.unit, w.arg⟩
      else if w.code = 0x92 then Grant.endIf w.unit g else g) ws = g
    rw [if_neg hw, if_neg hw', ih hws]

/-- What TRANSPORT has to have: the buffer PLCPHY has handed over, until it has reported it. -/
def owedGrant (held : Option Nat) (queue : List Word) (n : BitVec 16) : Option Grant :=
  match held with
  | some j => if queue = [] then some ⟨BitVec.ofNat 8 j, n⟩ else none
  | none => none

theorem owedGrant_none (queue : List Word) (n : BitVec 16) : owedGrant none queue n = none := rfl

theorem owedGrant_unreported (j : Nat) (n : BitVec 16) : owedGrant (some j) [] n = some ⟨BitVec.ofNat 8 j, n⟩ := rfl

theorem owedGrant_reported (held : Option Nat) (w : Word) (ws : List Word) (n : BitVec 16) :
    owedGrant held (w :: ws) n = none := by
  cases held <;> rfl

/-- A grant that is owed names the buffer handed over, and its event has not come. -/
theorem owedGrant_eq_some {held : Option Nat} {queue : List Word} {n : BitVec 16} {g : Grant}
    (h : owedGrant held queue n = some g) : ∃ j, held = some j ∧ queue = [] ∧ g = ⟨BitVec.ofNat 8 j, n⟩ := by
  cases held with
  | none => cases h
  | some j =>
    cases queue with
    | nil => cases h; exact ⟨j, rfl, rfl, rfl⟩
    | cons => cases h

variable {s t : State}

/-! The two directions of `TransportInv`. -/

/-- The TX direction of `TransportInv`. -/
structure TxLink (s : State) : Prop where
  once : (s.evOut.filter (fun w => w.code = 0x90)).length + (if s.txGrant.isSome then 1 else 0) ≤ 1
  tx : s.txs.state ≠ .idle → txGrantAfter s.txGrant s.evOut = owedGrant s.txs.inflight s.txQueue s.txs.n
  queue : s.txs.state ≠ .idle →
    s.txQueue = [] ∨ ∃ j, s.txs.inflight = some j ∧ s.txQueue = [eventWord 0x80 j s.txs.n]
  has : s.txHas = (txGrantAfter s.txGrant s.evOut).map (·.buf)

/-- The RX direction of `TransportInv`. -/
structure RxLink (s : State) : Prop where
  rx : rxGrantAfter s.rxGrant s.evOut = owedGrant s.rxs.armedBuf s.rxQueue s.rxs.n
  queue : s.rxQueue = [] ∨ ∃ j, s.rxs.armedBuf = some j ∧ s.rxQueue = [eventWord 0x81 j s.rxs.n]
  has : s.rxHas = (rxGrantAfter s.rxGrant s.evOut).map (·.buf)

/-- Every word on its way to TRANSPORT is a request. -/
def OnlyRequests (s : State) : Prop := ∀ w ∈ s.evOut, w.code = 0x90 ∨ w.code = 0x91 ∨ w.code = 0x92

theorem transportInv_iff : TransportInv s ↔ OnlyRequests s ∧ TxLink s ∧ RxLink s :=
  ⟨fun h => ⟨h.requests, ⟨h.txOnce, h.tx, h.txQueue, h.txHas⟩, ⟨h.rx, h.rxQueue, h.rxHas⟩⟩,
    fun ⟨hreq, htx, hrx⟩ => ⟨hreq, htx.once, htx.tx, htx.queue, hrx.rx, hrx.queue, htx.has, hrx.has⟩⟩

theorem OnlyRequests.append {ws : List Word} {w : Word} (h : ∀ v ∈ ws, v.code = 0x90 ∨ v.code = 0x91 ∨ v.code = 0x92)
    (hw : w.code = 0x90 ∨ w.code = 0x91 ∨ w.code = 0x92) :
    ∀ v ∈ ws ++ [w], v.code = 0x90 ∨ v.code = 0x91 ∨ v.code = 0x92 :=
  List.forall_mem_append.2 ⟨h, List.forall_mem_singleton.2 hw⟩

/-! The TX direction. -/

namespace TxLink

theorem same (hs : TxLink s) (h : SameSched s t) : TxLink t where
  once := by rw [h.evOut, h.txGrant]; exact hs.once
  tx := by rw [h.txs, h.txGrant, h.evOut, h.txQueue]; exact hs.tx
  queue := by rw [h.txs, h.txQueue]; exact hs.queue
  has := by rw [h.txHas, h.txGrant, h.evOut]; exact hs.has

/-- A request of the other direction. -/
theorem emit_other (hs : TxLink s) {w : Word} (hw : w.code ≠ 0x90) : TxLink { s with evOut := s.evOut ++ [w] } := by
  have hgrant : txGrantAfter s.txGrant (s.evOut ++ [w]) = txGrantAfter s.txGrant s.evOut := by
    rw [txGrantAfter_append, if_neg hw]
  exact {
    once := by
      change ((s.evOut ++ [w]).filter _).length + _ ≤ 1
      rw [List.filter_append, List.filter_cons_of_neg (by simpa using hw), List.filter_nil, List.append_nil]
      exact hs.once
    tx := fun h => hgrant.trans (hs.tx h)
    queue := hs.queue
    has := by rw [hgrant]; exact hs.has }

/-- A session that goes on with the same buffer in flight. -/
theorem ongoing (hs : TxLink s) (hsession : s.txs.state ≠ .idle) (inflight : t.txs.inflight = s.txs.inflight := by rfl)
    (n : t.txs.n = s.txs.n := by rfl) (queue : t.txQueue = s.txQueue := by rfl) (evOut : t.evOut = s.evOut := by rfl)
    (has : t.txHas = s.txHas := by rfl) (grant : t.txGrant = s.txGrant := by rfl) : TxLink t where
  once := by rw [evOut, grant]; exact hs.once
  tx _ := by rw [grant, evOut, inflight, queue, n]; exact hs.tx hsession
  queue _ := by rw [queue, inflight, n]; exact hs.queue hsession
  has := by rw [has, grant, evOut]; exact hs.has

/-- A session begins where TRANSPORT has no buffer, as `tx_busy` tells (R356). -/
theorem sched (hs : TxLink s) (hfree : s.txs.state = .idle → s.txBusy = false → txGrantAfter s.txGrant s.evOut = none)
    (h : SchedEffect s t) : TxLink t := by
  cases h with
  | keep => exact hs
  | rebindTx | rebindRx | rxBegin | txStop | rxStop => exact { hs with }
  | txBegin n idle _ _ quiet => exact { hs with tx := fun _ => hfree idle quiet, queue := fun _ => .inl rfl }

/-- In a session an event that waits in the queue is for the buffer in flight, with its count. -/
theorem event_of_inflight (hs : TxLink s) (hpool : TxPoolInv s) {j : Nat} {ev : Word} {rest : List Word}
    (inflight : s.txs.inflight = some j) (queue : s.txQueue = ev :: rest) :
    s.txs.state ≠ .idle ∧ rest = [] ∧ ev = eventWord 0x80 j s.txs.n ∧ ev.unit.toNat = j := by
  have hsession : s.txs.state ≠ .idle := fun h => by
    rw [(hpool.idle h).1] at inflight
    cases inflight
  have hj : j < 256 := (hpool.inflight j inflight).trans (by decide)
  rcases hs.queue hsession with h | ⟨k, hk, h⟩
  · rw [queue] at h; cases h
  · obtain rfl := Option.some.inj (inflight.symm.trans hk)
    rw [queue] at h
    obtain ⟨rfl, rfl⟩ := List.cons.inj h
    exact ⟨hsession, rfl, rfl, by rw [unit_eventWord]; exact Nat.mod_eq_of_lt hj⟩

/-- The request of a hand-over: nothing was in flight, so TRANSPORT has no other buffer and no other request. -/
theorem txHand (hs : TxLink s) (hpool : TxPoolInv s) (e : EncUnit) (state : s.txs.state = .running)
    (phase : s.txs.phase = .hand) : TxLink (txHand e s) := by
  have hsession : s.txs.state ≠ .idle := by rw [state]; nofun
  have hfree : s.txs.inflight = none := hpool.hand state phase
  have hqueue : s.txQueue = [] := by
    rcases hs.queue hsession with h | ⟨j, hj, -⟩
    · exact h
    · rw [hfree] at hj; cases hj
  have hnone := hs.tx hsession
  rw [hfree, owedGrant_none, txGrantAfter_eq_none] at hnone
  obtain ⟨hgrant, hasked⟩ := hnone
  have hafter : txGrantAfter s.txGrant (s.evOut ++ [eventWord 0x90 s.txs.fillIdx s.txs.n]) =
      some ⟨BitVec.ofNat 8 s.txs.fillIdx, s.txs.n⟩ := by
    rw [txGrantAfter_append, code_eventWord, if_pos rfl, unit_eventWord, arg_eventWord]
  obtain ⟨dueNs, dueRem, hregs⟩ := s.txs.hand_regs ((s.plug (.enc e)).num idSamplingRate)
  have htxs : (Machine.txHand e s).txs = _ := hregs
  exact {
    once := by
      change ((s.evOut ++ [eventWord 0x90 s.txs.fillIdx s.txs.n]).filter _).length + (if s.txGrant.isSome then 1 else 0) ≤ 1
      rw [List.filter_append, List.filter_eq_nil_iff.2 (by simpa using hasked), hgrant]
      simp
    tx := fun _ => by
      rw [htxs]
      change txGrantAfter s.txGrant (s.evOut ++ [_]) = owedGrant (some s.txs.fillIdx) s.txQueue s.txs.n
      rw [hqueue, owedGrant_unreported]
      exact hafter
    queue := fun _ => .inl hqueue
    has := by
      change some (BitVec.ofNat 8 s.txs.fillIdx) = (txGrantAfter s.txGrant (s.evOut ++ [_])).map _
      rw [hafter]
      rfl }

theorem txClose (hs : TxLink s) : TxLink (txClose s) :=
  { hs with tx := fun h => absurd rfl h, queue := fun h => absurd rfl h }

theorem txStep (hs : TxLink s) (hpool : TxPoolInv s) (h : TxEffect s t) : TxLink t := by
  cases h with
  | stay => exact hs
  | stop session => exact hs.ongoing session
  | arm state => exact hs.ongoing (by rw [state]; nofun)
  | run state => exact hs.ongoing (by rw [state]; nofun)
  | check state => exact hs.ongoing (by rw [state]; nofun)
  | skip state => exact hs.ongoing (by rw [state]; nofun)
  | pace state => exact hs.ongoing (by rw [state]; nofun)
  | proceed state => exact hs.ongoing (by rw [state]; nofun)
  | preload _ fill =>
    obtain ⟨q, pool, hsame, rfl, -⟩ := txFill_filled fill
    exact { hs.same hsame with }
  | fill _ _ fill =>
    obtain ⟨q, pool, hsame, rfl, -⟩ := txFill_filled fill
    exact { hs.same hsame with }
  | fatal => exact { hs with }
  | ignore inflight queue other => exact absurd (hs.event_of_inflight hpool inflight queue).2.2.2 other
  | badCount inflight queue same count =>
    obtain ⟨-, -, rfl, -⟩ := hs.event_of_inflight hpool inflight queue
    exact absurd (arg_eventWord ..) count
  | sent inWait inflight queue =>
    obtain ⟨hsession, rfl, -, -⟩ := hs.event_of_inflight hpool inflight queue
    have hreported := hs.tx hsession
    rw [queue, owedGrant_reported] at hreported
    exact { hs with tx := fun _ => hreported, queue := fun _ => .inl rfl }
  | hand e state phase => exact hs.txHand hpool e state phase
  | close => exact hs.txClose

/-- TRANSPORT has taken its TX request, so no other is under way. -/
theorem none_asked (hs : TxLink s) {g : Grant} (hg : s.txGrant = some g) : ∀ w ∈ s.evOut, w.code ≠ 0x90 := by
  have hlen := hs.once
  rw [hg, Option.isSome_some, if_pos rfl] at hlen
  have hnil : s.evOut.filter (fun w => w.code = 0x90) = [] := List.eq_nil_of_length_eq_zero (by omega)
  simpa using hnil

/-- The TX buffer TRANSPORT has taken in a session is the one in flight, and not reported. -/
theorem grant (hs : TxLink s) (hsession : s.txs.state ≠ .idle) {g : Grant} (hg : s.txGrant = some g) :
    ∃ j, s.txs.inflight = some j ∧ s.txQueue = [] ∧ g = ⟨BitVec.ofNat 8 j, s.txs.n⟩ := by
  have howed := hs.tx hsession
  rw [txGrantAfter_of_none_asked (hs.none_asked hg), hg] at howed
  exact owedGrant_eq_some howed.symm

/-- A truthful event: the buffer TRANSPORT had is reported (R354 (3)). -/
theorem sent (hs : TxLink s) {buf : Byte} {count : BitVec 16} (htrue : s.txGrant = some ⟨buf, count⟩) :
    TxLink { s with txQueue := s.txQueue ++ [fieldsWord 0x80 buf count], txHas := endLoan buf s.txHas,
                    txGrant := Grant.endIf buf s.txGrant } := by
  have hasked := hs.none_asked htrue
  have hend : Grant.endIf buf s.txGrant = none := by rw [htrue]; exact if_pos rfl
  have hafter : txGrantAfter (Grant.endIf buf s.txGrant) s.evOut = none := by
    rw [txGrantAfter_of_none_asked hasked, hend]
  have hhas : endLoan buf s.txHas = none := by
    rw [hs.has, txGrantAfter_of_none_asked hasked, htrue]
    exact if_pos rfl
  exact {
    once := by
      rw [hend, List.filter_eq_nil_iff.2 (by simpa using hasked)]
      simp
    tx := fun hsession => by
      obtain ⟨j, -, hqueue, -⟩ := hs.grant hsession htrue
      rw [hafter, hqueue]
      exact (owedGrant_reported ..).symm
    queue := fun hsession => by
      obtain ⟨j, hj, hqueue, hg⟩ := hs.grant hsession htrue
      obtain ⟨rfl, rfl⟩ := Grant.mk.inj hg
      refine .inr ⟨j, hj, ?_⟩
      rw [hqueue]
      rfl
    has := by rw [hafter, hhas]; rfl }

end TxLink

/-! The RX direction. -/

theorem RxPoolInv.armed_lt (hpool : RxPoolInv s) {j : Nat} (armed : s.rxs.armedBuf = some j) : j < Config.rxPool := by
  have hrun : s.rxs.state = .running := by
    by_contra h
    rw [(hpool.quiet h).1] at armed
    cases armed
  have harmed := (hpool.running hrun).1
  rw [armed] at harmed
  split at harmed
  · obtain rfl := Option.some.inj harmed
    exact hpool.wrIdx
  · cases harmed

namespace RxLink

theorem same (hs : RxLink s) (h : SameSched s t) : RxLink t where
  rx := by rw [h.rxs, h.rxGrant, h.evOut, h.rxQueue]; exact hs.rx
  queue := by rw [h.rxs, h.rxQueue]; exact hs.queue
  has := by rw [h.rxHas, h.rxGrant, h.evOut]; exact hs.has

/-- A request of the other direction. -/
theorem emit_other (hs : RxLink s) {w : Word} (h1 : w.code ≠ 0x91) (h2 : w.code ≠ 0x92) :
    RxLink { s with evOut := s.evOut ++ [w] } := by
  have hgrant : rxGrantAfter s.rxGrant (s.evOut ++ [w]) = rxGrantAfter s.rxGrant s.evOut := by
    rw [rxGrantAfter_append, if_neg h1, if_neg h2]
  exact { rx := hgrant.trans hs.rx, queue := hs.queue, has := by rw [hgrant]; exact hs.has }

/-- Where no buffer is armed TRANSPORT has none, and no event waits. -/
theorem unarmed (hs : RxLink s) (free : s.rxs.armedBuf = none) :
    rxGrantAfter s.rxGrant s.evOut = none ∧ s.rxQueue = [] := by
  refine ⟨by rw [hs.rx, free, owedGrant_none], ?_⟩
  rcases hs.queue with h | ⟨j, hj, -⟩
  · exact h
  · rw [free] at hj; cases hj

theorem sched (hs : RxLink s) (hpool : RxPoolInv s) (h : SchedEffect s t) : RxLink t := by
  cases h with
  | keep => exact hs
  | rebindTx | rebindRx | txBegin | txStop | rxStop => exact { hs with }
  | rxBegin n idle =>
    obtain ⟨hafter, -⟩ := hs.unarmed (hpool.quiet (by rw [idle]; nofun)).1
    exact { hs with rx := hafter, queue := .inl rfl }

/-- An event that waits in the queue is for the armed buffer, with its count. -/
theorem event (hs : RxLink s) (hpool : RxPoolInv s) {ev : Word} {rest : List Word} (queue : s.rxQueue = ev :: rest) :
    ∃ j, s.rxs.armedBuf = some j ∧ rest = [] ∧ ev = eventWord 0x81 j s.rxs.n ∧ ev.unit.toNat = j := by
  rcases hs.queue with h | ⟨j, hj, h⟩
  · rw [queue] at h; cases h
  · rw [queue] at h
    obtain ⟨rfl, rfl⟩ := List.cons.inj h
    exact ⟨j, hj, rfl, rfl, by rw [unit_eventWord]; exact Nat.mod_eq_of_lt ((hpool.armed_lt hj).trans (by decide))⟩

/-- The request of a trigger. -/
theorem rxTrigger (hs : RxLink s) (free : s.rxs.armedBuf = none) : RxLink (rxTrigger s) := by
  obtain ⟨-, hqueue⟩ := hs.unarmed free
  have hafter : rxGrantAfter s.rxGrant (s.evOut ++ [eventWord 0x91 s.rxs.wrIdx s.rxs.n]) =
      some ⟨BitVec.ofNat 8 s.rxs.wrIdx, s.rxs.n⟩ := by
    rw [rxGrantAfter_append, code_eventWord, if_pos rfl, unit_eventWord, arg_eventWord]
  exact {
    rx := by
      change rxGrantAfter s.rxGrant (s.evOut ++ [_]) = owedGrant (some s.rxs.wrIdx) s.rxQueue s.rxs.n
      rw [hqueue, owedGrant_unreported]
      exact hafter
    queue := .inl hqueue
    has := by
      change some (BitVec.ofNat 8 s.rxs.wrIdx) = (rxGrantAfter s.rxGrant (s.evOut ++ [_])).map _
      rw [hafter]
      rfl }

/-- An abort of the armed buffer: TRANSPORT has none from there on, whether or not it has reported it (R354 (1)). -/
theorem abort (hs : RxLink s) {j : Nat} (armed : s.rxs.armedBuf = some j) :
    rxGrantAfter s.rxGrant (s.emitRxAbort j).evOut = none ∧ (s.emitRxAbort j).rxHas = none := by
  have hend : Grant.endIf (BitVec.ofNat 8 j) (rxGrantAfter s.rxGrant s.evOut) = none ∧
      endLoan (BitVec.ofNat 8 j) s.rxHas = none := by
    rw [hs.has, hs.rx, armed]
    cases s.rxQueue with
    | nil => exact ⟨if_pos rfl, if_pos rfl⟩
    | cons => exact ⟨rfl, rfl⟩
  refine ⟨?_, hend.2⟩
  change rxGrantAfter s.rxGrant (s.evOut ++ [eventWord 0x92 j 0]) = none
  rw [rxGrantAfter_append, code_eventWord, unit_eventWord, if_neg (by decide), if_pos rfl]
  exact hend.1

/-- The armed capture aborted, and the queue flushed. -/
theorem abortArmed (hs : RxLink s) :
    rxGrantAfter s.rxGrant s.abortArmed.evOut = none ∧ s.abortArmed.rxHas = none := by
  cases harmed : s.rxs.armedBuf with
  | none =>
    obtain ⟨hafter, -⟩ := hs.unarmed harmed
    have habort : s.abortArmed = s := by simp only [State.abortArmed, harmed]
    rw [habort, hs.has, hafter]
    exact ⟨rfl, rfl⟩
  | some j =>
    have habort : s.abortArmed = s.emitRxAbort j := by simp only [State.abortArmed, harmed]
    rw [habort]
    exact hs.abort harmed

theorem rxClosed (hs : RxLink s) (d : DecUnit) : RxLink (rxClosed d s) := by
  obtain ⟨hafter, hhas⟩ := hs.abortArmed
  rw [← State.abortArmed_rxGrant s] at hafter
  refine RxLink.same ?_ (rxClosed_sched d s)
  exact { rx := hafter, queue := .inl rfl, has := hhas.trans (congrArg (Option.map _) hafter).symm }

theorem rxStep (hs : RxLink s) (hpool : RxPoolInv s) (h : RxEffect s t) : RxLink t := by
  cases h with
  | stay => exact hs
  | stop | run | check | resume | badRead | badChunk => exact { hs with }
  | trigger state phase => exact hs.rxTrigger (hpool.free_of_phase state (by rw [phase]; nofun) (by rw [phase]; nofun)).1
  | ignore queue other =>
    obtain ⟨j, hj, -, -, hunit⟩ := hs.event hpool queue
    exact absurd (hunit ▸ hj) other
  | badCount queue same count =>
    obtain ⟨j, -, -, rfl, -⟩ := hs.event hpool queue
    exact absurd (arg_eventWord ..) count
  | captured state phase armed queue =>
    obtain ⟨-, -, rfl, -, -⟩ := hs.event hpool queue
    have hreported := hs.rx
    rw [queue, owedGrant_reported] at hreported
    exact { hs with rx := hreported, queue := .inl rfl }
  | dispatch _ _ parse => exact { hs.same (decParse_sameSched parse) with }
  | close d => exact hs.rxClosed d

theorem timer (hs : RxLink s) (h : TimerEffect s t) : RxLink t := by
  cases h with
  | stay => exact hs
  | timeout state phase queue armed =>
    obtain ⟨hafter, hhas⟩ := hs.abort armed
    exact { rx := hafter, queue := .inl queue, has := hhas.trans (congrArg (Option.map _) hafter).symm }
  | unarmed _ _ free =>
    obtain ⟨hafter, hqueue⟩ := hs.unarmed free
    exact { hs with rx := hafter, queue := .inl hqueue }
  | forceTx => exact { hs with }
  | forceRx d =>
    have hforced : RxLink { s with rxs := { s.rxs with forced := true } } := { hs with }
    exact hforced.rxClosed d

/-- The RX buffer TRANSPORT has taken, no request being under way, is the armed one, and not reported. -/
theorem grant (hs : RxLink s) {g : Grant} (hg : s.rxGrant = some g) (hasked : ∀ w ∈ s.evOut, w.code ≠ 0x91 ∧ w.code ≠ 0x92) :
    ∃ j, s.rxs.armedBuf = some j ∧ s.rxQueue = [] ∧ g = ⟨BitVec.ofNat 8 j, s.rxs.n⟩ := by
  have howed := hs.rx
  rw [rxGrantAfter_of_none_asked hasked, hg] at howed
  exact owedGrant_eq_some howed.symm

/-- A truthful event: the buffer TRANSPORT had is reported, no abort for it being under way (R354 (3), (4)). -/
theorem captured (hs : RxLink s) {buf : Byte} {count : BitVec 16} (htrue : s.rxGrant = some ⟨buf, count⟩)
    (hasked : ∀ w ∈ s.evOut, w.code ≠ 0x91 ∧ w.code ≠ 0x92) :
    RxLink { s with rxQueue := s.rxQueue ++ [fieldsWord 0x81 buf count], rxHas := endLoan buf s.rxHas,
                    rxGrant := Grant.endIf buf s.rxGrant } := by
  have hend : Grant.endIf buf s.rxGrant = none := by rw [htrue]; exact if_pos rfl
  have hafter : rxGrantAfter (Grant.endIf buf s.rxGrant) s.evOut = none := by
    rw [rxGrantAfter_of_none_asked hasked, hend]
  have hhas : endLoan buf s.rxHas = none := by
    rw [hs.has, rxGrantAfter_of_none_asked hasked, htrue]
    exact if_pos rfl
  obtain ⟨j, hj, hqueue, hg⟩ := hs.grant htrue hasked
  obtain ⟨rfl, rfl⟩ := Grant.mk.inj hg
  exact {
    rx := by
      rw [hafter, hqueue]
      exact (owedGrant_reported ..).symm
    queue := .inr ⟨j, hj, by rw [hqueue]; rfl⟩
    has := by rw [hafter, hhas]; rfl }

end RxLink

end Sys2Proof.Machine
end

section
/-! `TransportInv` under every move of a TRANSPORT that keeps to R354, and what halts PLCPHY there. -/

namespace Sys2Proof.Machine

variable {s t : State}

theorem transportInv_reset : TransportInv State.reset where
  requests := nofun
  txOnce := by decide
  tx h := absurd rfl h
  txQueue h := absurd rfl h
  rx := rfl
  rxQueue := .inl rfl
  txHas := rfl
  rxHas := rfl

/-! What an effect on one side is to the other. -/

/-- Words emitted by a scheduler, beside the fields of the other direction: none, or one request. -/
theorem TxEffect.rxLink (h : TxEffect s t) (hs : RxLink s) : RxLink t := by
  cases h with
  | stay => exact hs
  | stop | arm | run | check | skip | pace | proceed | fatal | ignore | badCount | sent | close => exact { hs with }
  | preload _ fill =>
    obtain ⟨q, pool, hsame, rfl, -⟩ := txFill_filled fill
    exact { hs.same hsame with }
  | fill _ _ fill =>
    obtain ⟨q, pool, hsame, rfl, -⟩ := txFill_filled fill
    exact { hs.same hsame with }
  | hand e =>
    have hemit := hs.emit_other (w := eventWord 0x90 s.txs.fillIdx s.txs.n) (by simp) (by simp)
    exact { hemit with }

theorem OnlyRequests.of_evOut (hs : OnlyRequests s) (h : t.evOut = s.evOut) : OnlyRequests t := by
  unfold OnlyRequests
  rw [h]
  exact hs

theorem TxEffect.onlyRequests (h : TxEffect s t) (hs : OnlyRequests s) : OnlyRequests t := by
  cases h with
  | stay | stop | arm | run | check | skip | pace | proceed | fatal | ignore | badCount | sent | close => exact hs
  | preload _ fill =>
    obtain ⟨q, pool, hsame, rfl, -⟩ := txFill_filled fill
    exact hs.of_evOut hsame.evOut
  | fill _ _ fill =>
    obtain ⟨q, pool, hsame, rfl, -⟩ := txFill_filled fill
    exact hs.of_evOut hsame.evOut
  | hand e => exact OnlyRequests.append hs (.inl (code_eventWord ..))

theorem TxLink.emitRxAbort (hs : TxLink s) (j : Nat) : TxLink (s.emitRxAbort j) := by
  have hemit := hs.emit_other (w := eventWord 0x92 j 0) (by simp)
  exact { hemit with }

theorem TxLink.rxClosed (hs : TxLink s) (d : DecUnit) : TxLink (rxClosed d s) := by
  have habort : TxLink s.abortArmed := by
    unfold State.abortArmed
    split
    · exact hs.emitRxAbort _
    · exact hs
  refine TxLink.same ?_ (rxClosed_sched d s)
  exact { habort with }

theorem OnlyRequests.rxClosed (hs : OnlyRequests s) (d : DecUnit) : OnlyRequests (rxClosed d s) := by
  have habort : OnlyRequests s.abortArmed := by
    unfold State.abortArmed
    split
    · exact OnlyRequests.append hs (.inr (.inr (code_eventWord ..)))
    · exact hs
  exact habort.of_evOut (rxClosed_sched d s).evOut

theorem RxEffect.txLink (h : RxEffect s t) (hs : TxLink s) : TxLink t := by
  cases h with
  | stay => exact hs
  | stop | run | check | resume | ignore | badCount | captured | badRead | badChunk => exact { hs with }
  | trigger =>
    have hemit := hs.emit_other (w := eventWord 0x91 s.rxs.wrIdx s.rxs.n) (by simp)
    exact { hemit with }
  | dispatch _ _ parse => exact { hs.same (decParse_sameSched parse) with }
  | close d => exact hs.rxClosed d

theorem RxEffect.onlyRequests (h : RxEffect s t) (hs : OnlyRequests s) : OnlyRequests t := by
  cases h with
  | stay | stop | run | check | resume | ignore | badCount | captured | badRead | badChunk => exact hs
  | trigger => exact OnlyRequests.append hs (.inr (.inl (code_eventWord ..)))
  | dispatch _ _ parse => exact hs.of_evOut (decParse_sameSched parse).evOut
  | close d => exact hs.rxClosed d

theorem TimerEffect.txLink (h : TimerEffect s t) (hs : TxLink s) : TxLink t := by
  cases h with
  | stay => exact hs
  | timeout => exact { hs.emitRxAbort _ with }
  | unarmed => exact { hs with }
  | forceTx =>
    have hforced : TxLink { s with txs := { s.txs with forced := true } } := { hs with }
    exact hforced.txClose
  | forceRx d =>
    have hforced : TxLink { s with rxs := { s.rxs with forced := true } } := { hs with }
    exact hforced.rxClosed d

theorem TimerEffect.onlyRequests (h : TimerEffect s t) (hs : OnlyRequests s) : OnlyRequests t := by
  cases h with
  | stay | unarmed | forceTx => exact hs
  | timeout => exact OnlyRequests.append hs (.inr (.inr (code_eventWord ..)))
  | forceRx d => exact OnlyRequests.rxClosed (s := { s with rxs := { s.rxs with forced := true } }) hs d

theorem TimerEffect.halted (h : TimerEffect s t) : t.halted = s.halted := by
  cases h with
  | stay | timeout | unarmed | forceTx => rfl
  | forceRx d => exact rxClosed_halted d _

/-! The moves. -/

/-- What a move has to leave: the invariant, and PLCPHY running unless it was HOST's. -/
def KeepsTransport (host : Bool) (s t : State) : Prop :=
  TransportInv t ∧ (s.halted = false → host = false → t.halted = false)

theorem hostStep_transport (hs : TransportInv s) (hrx : RxPoolInv s)
    (hkeeps : s.txs.state = .idle → s.txBusy = false → txGrantAfter s.txGrant s.evOut = none)
    (h : hostStep s = .next t) : KeepsTransport true s t := by
  obtain ⟨hreq, htxl, hrxl⟩ := transportInv_iff.1 hs
  obtain ⟨r, q, t', ht, before, command, after⟩ := hostStep_effect s
  obtain rfl : t = t' := by rw [h] at ht; injection ht
  obtain ⟨p, hsched, hsame⟩ := command.sched
  have hrest := hsame.trans after.sameSched
  have hbefore := before.sameSched
  have hquiet : r.txs.state = .idle → r.txBusy = false → txGrantAfter r.txGrant r.evOut = none := by
    obtain ⟨rsp, cmdIn, stopWait, halted, fatalCode, rfl⟩ := before
    exact hkeeps
  have hout : t.evOut = s.evOut := by
    have hp : p.evOut = r.evOut := by cases hsched <;> rfl
    rw [hrest.evOut, hp, hbefore.evOut]
  refine ⟨transportInv_iff.2 ⟨?_, ?_, ?_⟩, fun _ => nofun⟩
  · exact hreq.of_evOut hout
  · exact ((htxl.same hbefore).sched hquiet hsched).same hrest
  · exact ((hrxl.same hbefore).sched (hrx.same hbefore) hsched).same hrest

/-- No event with a wrong count waits (R354 (3)). -/
theorem TxLink.count_agrees (hs : TxLink s) (hpool : TxPoolInv s) : ¬ CountMismatch s.txs.inflight s.txQueue s.txs.n := by
  rintro ⟨j, ev, rest, inflight, queue, count⟩
  obtain ⟨-, -, rfl, -⟩ := hs.event_of_inflight hpool inflight queue
  exact count (arg_eventWord ..)

theorem RxLink.count_agrees (hs : RxLink s) (hpool : RxPoolInv s) :
    ¬ CountMismatch s.rxs.armedBuf s.rxQueue s.rxs.n := by
  rintro ⟨j, ev, rest, armed, queue, count⟩
  obtain ⟨_, _, _, rfl, _⟩ := hs.event hpool queue
  exact count (arg_eventWord ..)

theorem txsStep_transport (hs : TransportInv s) (htx : TxPoolInv s) (h : txsStep s = .next t) :
    KeepsTransport false s t := by
  obtain ⟨hreq, htxl, hrxl⟩ := transportInv_iff.1 hs
  have heff := txEffect_of_txsStep h
  refine ⟨transportInv_iff.2 ⟨heff.onlyRequests hreq, htxl.txStep htx heff, heff.rxLink hrxl⟩, fun hrun _ => ?_⟩
  exact Bool.eq_false_iff.2 fun ht => htxl.count_agrees htx (heff.halts htx hrun ht).2

theorem rxsStep_transport (hs : TransportInv s) (hrx : RxPoolInv s) (hsession : SessionInv s) (h : rxsStep s = .next t) :
    KeepsTransport false s t := by
  obtain ⟨hreq, htxl, hrxl⟩ := transportInv_iff.1 hs
  have heff := rxEffect_of_rxsStep h
  refine ⟨transportInv_iff.2 ⟨heff.onlyRequests hreq, heff.txLink htxl, hrxl.rxStep hrx heff⟩, fun hrun _ => ?_⟩
  exact Bool.eq_false_iff.2 fun ht => hrxl.count_agrees hrx (heff.halts hrx hsession hrun ht).2

theorem TimerEffect.transport (h : TimerEffect s t) (hs : TransportInv s) : KeepsTransport false s t := by
  obtain ⟨hreq, htxl, hrxl⟩ := transportInv_iff.1 hs
  exact ⟨transportInv_iff.2 ⟨h.onlyRequests hreq, h.txLink htxl, hrxl.timer h⟩, fun hrun _ => h.halted.trans hrun⟩

theorem joinExpiryStep_transport (hs : TransportInv s) (h : joinExpiryStep s = .next t) : KeepsTransport false s t := by
  rcases joinExpiryStep_effect s with ⟨r, hr, heff⟩ | ⟨-, -, hfault⟩
  · rw [h] at hr; cases hr; exact heff.transport hs
  · rw [h] at hfault; cases hfault

/-! The event port. -/

/-- TRANSPORT's next word is one of two events, or it is dropped (R312). -/
theorem eventStep_cons {w : Word} {rest : List Word} (hin : s.evIn = w :: rest) :
    eventStep s = if w.code = 0x80 then execEvTxSent w.unit w.arg { s with evIn := rest }
      else if w.code = 0x81 then execEvRxCaptured w.unit w.arg { s with evIn := rest }
      else .next { s with evIn := rest } := by
  unfold eventStep
  rw [hin]
  by_cases h0 : w.code = 0x80
  · simp [isEventCode, decodeEvent, h0, exec]
  · by_cases h1 : w.code = 0x81
    · simp [isEventCode, decodeEvent, h1, exec]
    · have hdrop : isEventCode w = false := by rw [isEventCode, decide_eq_false h0, decide_eq_false h1]; rfl
      rw [if_neg h0, if_neg h1]
      simp [hdrop]

theorem eventStep_transport (hs : TransportInv s) (hkeeps : ∀ w ∈ s.evIn.head?, EventTruthful s w)
    (h : eventStep s = .next t) : KeepsTransport false s t := by
  obtain ⟨hreq, htxl, hrxl⟩ := transportInv_iff.1 hs
  cases hin : s.evIn with
  | nil =>
    rw [eventStep, hin] at h
    cases h
    exact ⟨hs, fun hrun _ => hrun⟩
  | cons w rest =>
    have htrue : EventTruthful s w := hkeeps w (by rw [hin]; rfl)
    rw [eventStep_cons hin] at h
    split_ifs at h with hsent hcaptured
    · cases h
      have hlink := htxl.sent (htrue.sent hsent)
      exact ⟨transportInv_iff.2 ⟨hreq, { hlink with }, { hrxl with }⟩, fun hrun _ => hrun⟩
    · cases h
      obtain ⟨hgrant, hasked⟩ := htrue.captured hcaptured
      have hlink := hrxl.captured hgrant hasked
      exact ⟨transportInv_iff.2 ⟨hreq, { htxl with }, { hlink with }⟩, fun hrun _ => hrun⟩
    · cases h
      exact ⟨{ hs with }, fun hrun _ => hrun⟩

/-- TRANSPORT takes the next word on its way to it. -/
def takeRequest (w : Word) (rest : List Word) (s : State) : State :=
  { s with evOut := rest, txGrant := txGrantAfter s.txGrant [w], rxGrant := rxGrantAfter s.rxGrant [w] }

theorem requestStep_cons {w : Word} {rest : List Word} (hout : s.evOut = w :: rest)
    (hreq : w.code = 0x90 ∨ w.code = 0x91 ∨ w.code = 0x92) : requestStep s = .next (takeRequest w rest s) := by
  unfold requestStep
  rw [hout]
  rcases hreq with h | h | h
  · simp [decodeEvent, h, exec, execReqTxSend, takeRequest, txGrantAfter, rxGrantAfter]
  · simp [decodeEvent, h, exec, execReqRxCapture, takeRequest, txGrantAfter, rxGrantAfter]
  · simp [decodeEvent, h, exec, execReqRxAbort, takeRequest, txGrantAfter, rxGrantAfter]

theorem TxLink.takeRequest {w : Word} {rest : List Word} (hs : TxLink s) (hout : s.evOut = w :: rest) :
    TxLink (takeRequest w rest s) := by
  have hafter : txGrantAfter (txGrantAfter s.txGrant [w]) rest = txGrantAfter s.txGrant s.evOut := by
    rw [hout]; rfl
  exact {
    once := by
      have honce := hs.once
      rw [hout] at honce
      change (rest.filter _).length + (if (if w.code = 0x90 then some ⟨w.unit, w.arg⟩ else s.txGrant).isSome then 1 else 0) ≤ 1
      by_cases h : w.code = 0x90
      · rw [List.filter_cons_of_pos (by simpa using h), List.length_cons] at honce
        rw [if_pos h, Option.isSome_some, if_pos rfl]
        omega
      · rw [List.filter_cons_of_neg (by simpa using h)] at honce
        rw [if_neg h]
        exact honce
    tx := fun hsession => hafter.trans (hs.tx hsession)
    queue := hs.queue
    has := hs.has.trans (congrArg (Option.map _) hafter.symm) }

theorem RxLink.takeRequest {w : Word} {rest : List Word} (hs : RxLink s) (hout : s.evOut = w :: rest) :
    RxLink (takeRequest w rest s) := by
  have hafter : rxGrantAfter (rxGrantAfter s.rxGrant [w]) rest = rxGrantAfter s.rxGrant s.evOut := by
    rw [hout]; rfl
  exact { rx := hafter.trans hs.rx, queue := hs.queue, has := hs.has.trans (congrArg (Option.map _) hafter.symm) }

theorem requestStep_transport (hs : TransportInv s) (h : requestStep s = .next t) : KeepsTransport false s t := by
  obtain ⟨hreq, htxl, hrxl⟩ := transportInv_iff.1 hs
  cases hout : s.evOut with
  | nil =>
    rw [requestStep, hout] at h
    cases h
    exact ⟨hs, fun hrun _ => hrun⟩
  | cons w rest =>
    unfold OnlyRequests at hreq
    rw [hout] at hreq
    obtain ⟨hw, hrest⟩ := List.forall_mem_cons.1 hreq
    rw [requestStep_cons hout hw] at h
    cases h
    exact ⟨transportInv_iff.2 ⟨hrest, htxl.takeRequest hout, hrxl.takeRequest hout⟩, fun hrun _ => hrun⟩

/-! TRANSPORT's accesses to the buffers it has. -/

theorem TxLink.lent_of_grant (hs : TxLink s) {g : Grant} (hg : s.txGrant = some g) : s.txLent g.buf.toNat = true := by
  have hhas : s.txHas = some g.buf := by
    rw [hs.has, txGrantAfter_of_none_asked (hs.none_asked hg), hg]
    rfl
  simp [State.txLent, hhas]

theorem RxLink.lent_of_grant (hs : RxLink s) {g : Grant} (hg : s.rxGrant = some g)
    (hasked : ∀ w ∈ s.evOut, w.code ≠ 0x91 ∧ w.code ≠ 0x92) : s.rxLent g.buf.toNat = true := by
  have hhas : s.rxHas = some g.buf := by
    rw [hs.has, rxGrantAfter_of_none_asked hasked, hg]
    rfl
  simp [State.rxLent, hhas]

/-- A read of the TX buffer TRANSPORT has, within the count, gives a sample. -/
theorem transportRead_its (htx : TxPoolInv s) (hs : TxLink s) (hsession : s.txs.state ≠ .idle) {g : Grant} {i : Nat}
    (hg : s.txGrant = some g) (hi : i < g.count.toNat) :
    ∃ v, transportRead g.buf.toNat i s = s.toLine g.buf.toNat i v := by
  have hlent := hs.lent_of_grant hg
  obtain ⟨j, hj, -, rfl⟩ := hs.grant hsession hg
  have hlt := htx.inflight j hj
  have hbuf : (BitVec.ofNat 8 j).toNat = j := Nat.mod_eq_of_lt (hlt.trans (by decide))
  obtain ⟨b, hb, howner⟩ := buffer_of_owners htx.owner hlt
  rw [if_pos hj] at howner
  rw [hbuf] at hlent ⊢
  exact ⟨_, by rw [transportRead, hlent, lineRead_its hb howner, if_pos hi]⟩

/-- A write to the RX buffer TRANSPORT has, within the count, changes the pool alone. -/
theorem transportWrite_its (hrx : RxPoolInv s) (hs : RxLink s) {g : Grant} {i : Nat} {v : Sample}
    (hg : s.rxGrant = some g) (hi : i < g.count.toNat) (hasked : ∀ w ∈ s.evOut, w.code ≠ 0x91 ∧ w.code ≠ 0x92) :
    ∃ pool, transportWrite g.buf.toNat i v s = { s with rxPool := pool } := by
  have hlent := hs.lent_of_grant hg hasked
  obtain ⟨j, hj, -, rfl⟩ := hs.grant hg hasked
  have hbuf : (BitVec.ofNat 8 j).toNat = j := Nat.mod_eq_of_lt ((hrx.armed_lt hj).trans (by decide))
  obtain ⟨b, hb, howner⟩ := buffer_of_owners hrx.owner (hrx.armed_lt hj)
  rw [if_pos hj] at howner
  rw [hbuf] at hlent ⊢
  exact ⟨_, by rw [transportWrite, hlent, lineWrite_its hb howner, if_pos hi]⟩

/-! Every move. -/

/-- The move of a TRANSPORT that keeps to R354 and R356; every move of PLCPHY's own keeps its part. -/
theorem moveStep_transport (htx : TxPoolInv s) (hrx : RxPoolInv s) (hsession : SessionInv s) (hs : TransportInv s)
    (hkeeps : TransportKeeps s) (h : moveStep (nextMove s) s = .next t) :
    KeepsTransport (decide (nextMove s = .turn .host)) s t := by
  obtain ⟨-, htxl, hrxl⟩ := transportInv_iff.1 hs
  unfold TransportKeeps at hkeeps
  cases hm : nextMove s with
  | turn turn =>
    rw [hm] at h hkeeps
    cases turn with
    | host => exact hostStep_transport hs hrx hkeeps h
    | txs => exact txsStep_transport hs htx h
    | rxs => exact rxsStep_transport hs hrx hsession h
    | captureTimeout =>
      cases h
      exact (captureTimeoutStep_effect s).transport hs
    | joinExpiry => exact joinExpiryStep_transport hs h
    | event => exact eventStep_transport hs hkeeps h
    | request => exact requestStep_transport hs h
  | txRead j i =>
    rw [hm] at h hkeeps
    obtain ⟨hsession, g, hg, rfl, hi⟩ := hkeeps
    obtain ⟨v, hread⟩ := transportRead_its htx htxl hsession hg hi
    obtain rfl : s.toLine g.buf.toNat i v = t := by rw [← hread]; injection h
    exact ⟨{ hs with }, fun hrun _ => hrun⟩
  | rxWrite j i v =>
    rw [hm] at h hkeeps
    obtain ⟨⟨g, hg, rfl, hi⟩, -, hasked⟩ := hkeeps
    obtain ⟨pool, hwrite⟩ := transportWrite_its (v := v) hrx hrxl hg hi hasked
    obtain rfl : { s with rxPool := pool } = t := by rw [← hwrite]; injection h
    exact ⟨{ hs with }, fun hrun _ => hrun⟩
  | txWrite => rw [hm] at hkeeps; exact hkeeps.elim
  | rxRead => rw [hm] at hkeeps; exact hkeeps.elim
  | txBusy | rxBusy =>
    rw [hm] at h
    cases h
    exact ⟨{ hs with }, fun hrun _ => hrun⟩
  | rst =>
    rw [hm] at h
    cases h
    exact ⟨{ transportInv_reset with }, fun _ _ => rfl⟩

/-- Settles O16: the schedulers' halts are counts (`schedulers_raise_count`), and `TransportInv` is kept by every move
(`moveStep_transport`). -/
theorem sessionsRaiseNoErrorButCount : Obligations.SessionsRaiseNoErrorButCount := by
  refine ⟨fun s t htx hrx hsession hrun h ht => schedulers_raise_count htx hrx hsession hrun h ht, transportInv_reset,
    fun s t htx hrx hsession hs hkeeps h => ?_⟩
  obtain ⟨r, hmove, rfl⟩ := step_eq_next h
  obtain ⟨hinv, hrun⟩ := moveStep_transport htx hrx hsession hs hkeeps hmove
  exact ⟨{ hinv with }, fun hs hhost => hrun hs (decide_eq_false hhost)⟩

end Sys2Proof.Machine
end

section
/-! The transactions of the command port (30_encoding.md R91 to R101): operands packed and read back, the number of payload
words told by the payload itself, and all that the decoder accepts. -/

namespace Sys2Proof

open Machine

/-! Operands packed into words and read back (R94). -/

theorem wordSamples_append (a b : Sample) : wordSamples (b ++ a) = [a, b] := by
  have hlow : (b ++ a).extractLsb' 0 16 = a := BitVec.extractLsb'_append_eq_right
  have hhigh : (b ++ a).extractLsb' 16 16 = b := BitVec.extractLsb'_append_eq_left
  rw [wordSamples, hlow, hhigh]

/-- Of a word of four bytes, the fields of the upper three are the fields of those three. -/
theorem wordBytes_append (a b c d : Byte) : wordBytes (d ++ c ++ b ++ a) = [a, b, c, d] := by
  have h0 : (d ++ c ++ b ++ a).extractLsb' 0 8 = a := BitVec.extractLsb'_append_eq_right
  have h1 : (d ++ c ++ b ++ a).extractLsb' 8 8 = b := by
    rw [BitVec.extractLsb'_append_eq_of_le (by decide)]; exact BitVec.extractLsb'_append_eq_right
  have h2 : (d ++ c ++ b ++ a).extractLsb' 16 8 = c := by
    rw [BitVec.extractLsb'_append_eq_of_le (by decide), BitVec.extractLsb'_append_eq_of_le (by decide)]
    exact BitVec.extractLsb'_append_eq_right
  have h3 : (d ++ c ++ b ++ a).extractLsb' 24 8 = d := by
    rw [BitVec.extractLsb'_append_eq_of_le (by decide), BitVec.extractLsb'_append_eq_of_le (by decide)]
    exact BitVec.extractLsb'_append_eq_left
  rw [wordBytes, h0, h1, h2, h3]

theorem length_packSamples (xs : List Sample) : (packSamples xs).length = sampleWords xs.length := by
  induction xs using packSamples.induct with
  | case1 => rfl
  | case2 a => simp only [packSamples, List.length_singleton, sampleWords]
  | case3 a b t ih => simp only [packSamples, List.length_cons, ih, sampleWords]; omega

theorem length_packBytes (xs : List Byte) : (packBytes xs).length = byteWords xs.length := by
  induction xs using packBytes.induct with
  | case1 => rfl
  | case2 | case3 | case4 => simp only [packBytes, List.length_cons, List.length_nil, byteWords]
  | case5 a b c d t ih => simp only [packBytes, List.length_cons, ih, byteWords]; omega

theorem unpackSamples_packSamples (xs : List Sample) : unpackSamples xs.length (packSamples xs) = xs := by
  unfold unpackSamples
  induction xs using packSamples.induct with
  | case1 => rfl
  | case2 a => simp [packSamples, wordSamples_append]
  | case3 a b t ih => simp [packSamples, wordSamples_append, ih]

theorem unpackBytes_packBytes (xs : List Byte) : unpackBytes xs.length (packBytes xs) = xs := by
  unfold unpackBytes
  induction xs using packBytes.induct with
  | case1 => rfl
  | case2 | case3 | case4 => simp only [packBytes, List.flatMap_singleton, wordBytes_append]; rfl
  | case5 a b c d t ih => simp [packBytes, wordBytes_append, ih]

theorem length_unpackSamples_le (k : Nat) (ws : List Word) : (unpackSamples k ws).length ≤ k :=
  List.length_take_le ..

theorem length_unpackBytes_le (k : Nat) (ws : List Word) : (unpackBytes k ws).length ≤ k :=
  List.length_take_le ..

theorem toNat_countWord {n : Nat} (h : fitsWord n = true) : (countWord n).toNat = n :=
  Nat.mod_eq_of_lt (of_decide_eq_true h)

theorem high_append (a b : BitVec 16) : Word.high (a ++ b) = a := BitVec.extractLsb'_append_eq_left

theorem arg_append (a b : BitVec 16) : Word.arg (a ++ b) = b := BitVec.extractLsb'_append_eq_right

/-! The number of payload words (R101). -/

/-- A tag that asks for no value words asks for none whatever the first word after it says. -/
theorem settingValueLen_eq_zero {tag first : Word} (h : settingValueLen tag first = 0) (x : Word) :
    settingValueLen tag x = 0 := by
  unfold settingValueLen at h ⊢
  split_ifs at h ⊢ <;> omega

/-- The payload alone tells how long it is: the words after it do not count. -/
theorem Shape.payloadLen_of_append (sh : Shape) {arg : BitVec 16} {p r : List Word}
    (h : sh.payloadLen arg (p ++ r) = p.length) (r' : List Word) : sh.payloadLen arg (p ++ r') = p.length := by
  cases sh with
  | plain | argOnly | samples | argWord | word => exact h
  | setting f =>
    simp only [Shape.payloadLen] at h ⊢
    match p with
    | [] => simp only [List.length_nil] at h; omega
    | [tag] =>
      have hnone : settingValueLen tag (r.getD 0 0) = 0 := by
        simpa [Shape.payloadLen] using h
      simpa [Shape.payloadLen] using settingValueLen_eq_zero hnone _
    | tag :: v :: vs => exact h
  | playback f =>
    simp only [Shape.payloadLen] at h ⊢
    match p with
    | [] | [_] | [_, _] => simp only [List.length_nil, List.length_cons] at h; omega
    | _ :: _ :: _ :: _ => exact h
  | coeffs f =>
    simp only [Shape.payloadLen] at h ⊢
    match p with
    | [] | [_] => simp only [List.length_nil, List.length_cons] at h; omega
    | _ :: _ :: _ => exact h
  | chunk f =>
    simp only [Shape.payloadLen] at h ⊢
    match p with
    | [] => simp only [List.length_nil] at h; omega
    | _ :: _ => exact h

/-- `p` is a whole payload of the shape. -/
def Shape.Payload (sh : Shape) (arg : BitVec 16) (p : List Word) : Prop := sh.payloadLen arg p = p.length

theorem Shape.Payload.append {sh : Shape} {arg : BitVec 16} {p : List Word} (h : sh.Payload arg p) (r : List Word) :
    sh.payloadLen arg (p ++ r) = p.length :=
  sh.payloadLen_of_append (r := []) (by rwa [List.append_nil]) r

/-! All that the decoder accepts. -/

theorem decode_payload {w : Word} {sh : Shape} {p : List Word} (hshape : commandShape? w = some sh)
    (hp : sh.Payload w.arg p) (rest : List Word) : decode (w :: (p ++ rest)) = .instr (sh.read w.arg p) rest := by
  have hlen := hp.append rest
  simp only [decode, hshape, hlen, List.length_append, Nat.le_add_right, if_true, List.take_left, List.drop_left]

/-- A transaction is a command word of the table and a whole payload of its shape; what comes after is left over. -/
theorem decode_eq_instr_iff {ws rest : List Word} {i : Instr} :
    decode ws = .instr i rest ↔
      ∃ w p sh, ws = w :: (p ++ rest) ∧ commandShape? w = some sh ∧ sh.Payload w.arg p ∧ i = sh.read w.arg p := by
  constructor
  · intro h
    cases ws with
    | nil => cases h
    | cons w ws =>
      simp only [decode] at h
      split at h
      · cases h
      · rename_i sh hshape
        split at h
        · rename_i hlen
          cases h
          refine ⟨w, _, sh, congrArg _ (List.take_append_drop ..).symm, hshape, ?_, rfl⟩
          have htake : (ws.take (sh.payloadLen w.arg ws)).length = sh.payloadLen w.arg ws := List.length_take_of_le hlen
          have hwhole := sh.payloadLen_of_append (arg := w.arg) (p := ws.take (sh.payloadLen w.arg ws))
            (r := ws.drop (sh.payloadLen w.arg ws)) (by rw [List.take_append_drop, htake]) []
          rwa [List.append_nil] at hwhole
        · cases h
  · rintro ⟨w, p, sh, rfl, hshape, hp, rfl⟩
    exact decode_payload hshape hp rest

/-- The shape of the command word with this opcode and unit (R93). -/
def rowShape? (opcode unit : BitVec 8) : Option Shape :=
  (opTable.find? (fun r => r.opcode == opcode.toNat && r.unit == unit.toNat)).map (·.shape)

theorem commandShape?_commandWord (opcode unit : BitVec 8) (arg : BitVec 16) :
    commandShape? (commandWord opcode unit arg) = rowShape? opcode unit := by
  rw [commandShape?, commandWord, code_fieldsWord, unit_fieldsWord, rowShape?]

/-! Encoded commands, by the shape of their row. -/

section Encoded

variable {opcode unit : BitVec 8} {arg : BitVec 16}

theorem decode_commandWord {sh : Shape} {p : List Word} (hrow : rowShape? opcode unit = some sh) (hp : sh.Payload arg p)
    (rest : List Word) : decode (commandWord opcode unit arg :: p ++ rest) = .instr (sh.read arg p) rest := by
  have harg : Word.arg (commandWord opcode unit arg) = arg := arg_fieldsWord ..
  have h := decode_payload ((commandShape?_commandWord opcode unit arg).trans hrow) (p := p) (by rwa [harg]) rest
  rwa [harg] at h

theorem decode_plain {i : Instr} (hrow : rowShape? opcode unit = some (.plain i)) (rest : List Word) :
    decode ([commandWord opcode unit arg] ++ rest) = .instr i rest :=
  decode_commandWord (p := []) hrow rfl rest

theorem decode_argOnly {f : BitVec 16 → Instr} (hrow : rowShape? opcode unit = some (.argOnly f)) (rest : List Word) :
    decode ([commandWord opcode unit arg] ++ rest) = .instr (f arg) rest :=
  decode_commandWord (p := []) hrow rfl rest

theorem decode_argWord {f : BitVec 16 → Word → Instr} (hrow : rowShape? opcode unit = some (.argWord f)) (v : Word)
    (rest : List Word) : decode ([commandWord opcode unit arg, v] ++ rest) = .instr (f arg v) rest :=
  decode_commandWord (p := [v]) hrow rfl rest

theorem decode_word {f : Word → Instr} (hrow : rowShape? opcode unit = some (.word f)) (v : Word) (rest : List Word) :
    decode ([commandWord opcode unit arg, v] ++ rest) = .instr (f v) rest :=
  decode_commandWord (p := [v]) hrow rfl rest

theorem decode_setting {f : BitVec 16 → SettingArg → Instr} (hrow : rowShape? opcode unit = some (.setting f))
    {v : SettingArg} (hv : v.wf = true) (rest : List Word) :
    decode (commandWord opcode unit arg :: v.tag :: v.value ++ rest) = .instr (f arg v) rest := by
  have hlen : v.value.length = settingValueLen v.tag (v.value.headD 0) := eq_of_beq hv
  have hp : (Shape.setting f).Payload arg (v.tag :: v.value) := by
    simp only [Shape.Payload, Shape.payloadLen, List.length_cons, hlen]
    cases v.value <;> simp [Nat.add_comm]
  exact decode_commandWord hrow hp rest

theorem decode_samples {f : List Sample → Instr} (hrow : rowShape? opcode unit = some (.samples f)) {raw : List Sample}
    (hraw : samplesFitArg raw = true) (rest : List Word) :
    decode (commandWord opcode unit (BitVec.ofNat 16 raw.length) :: packSamples raw ++ rest) = .instr (f raw) rest := by
  have hcount : (BitVec.ofNat 16 raw.length).toNat = raw.length := Nat.mod_eq_of_lt (of_decide_eq_true hraw)
  have hp : (Shape.samples f).Payload (BitVec.ofNat 16 raw.length) (packSamples raw) := by
    rw [Shape.Payload, Shape.payloadLen, hcount, length_packSamples]
  rw [decode_commandWord hrow hp rest, Shape.read, hcount, unpackSamples_packSamples]

theorem decode_chunk {f : Sample → List Sample → Instr} (hrow : rowShape? opcode unit = some (.chunk f))
    {raw : List Sample} (hraw : fitsWord raw.length = true) (rest : List Word) :
    decode (commandWord opcode unit arg :: countWord raw.length :: packSamples raw ++ rest) = .instr (f arg raw) rest := by
  have hcount := toNat_countWord hraw
  have hp : (Shape.chunk f).Payload arg (countWord raw.length :: packSamples raw) := by
    simp only [Shape.Payload, Shape.payloadLen, List.getD_cons_zero, List.length_cons, hcount, length_packSamples]
    exact Nat.add_comm ..
  refine (decode_commandWord hrow hp rest).trans ?_
  simp only [Shape.read, List.getD_cons_zero, hcount, List.drop_succ_cons, List.drop_zero, unpackSamples_packSamples]

theorem decode_playback {f : BitVec 16 → BitVec 16 → BitVec 16 → List Byte → Instr}
    (hrow : rowShape? opcode unit = some (.playback f)) (format channels bits : BitVec 16) {data : List Byte}
    (hdata : fitsWord data.length = true) (rest : List Word) :
    decode (commandWord opcode unit arg :: (channels ++ format) :: ((0 : BitVec 16) ++ bits) :: countWord data.length ::
      packBytes data ++ rest) = .instr (f format channels bits data) rest := by
  have hcount := toNat_countWord hdata
  have hp : (Shape.playback f).Payload arg
      ((channels ++ format) :: ((0 : BitVec 16) ++ bits) :: countWord data.length :: packBytes data) := by
    simp only [Shape.Payload, Shape.payloadLen, List.getD_cons_succ, List.getD_cons_zero, List.length_cons, hcount,
      length_packBytes]
    omega
  refine (decode_commandWord hrow hp rest).trans ?_
  simp only [Shape.read, List.getD_cons_succ, List.getD_cons_zero, hcount, List.drop_succ_cons, List.drop_zero,
    unpackBytes_packBytes, arg_append, high_append]

theorem decode_coeffs {f : BitVec 16 → List Real32 → List Real32 → Instr}
    (hrow : rowShape? opcode unit = some (.coeffs f)) {a b : List Real32} (ha : fitsWord a.length = true)
    (hb : fitsWord b.length = true) (rest : List Word) :
    decode (commandWord opcode unit arg :: countWord a.length :: countWord b.length :: (a ++ b) ++ rest) =
      .instr (f arg a b) rest := by
  have hacount := toNat_countWord ha
  have hbcount := toNat_countWord hb
  have hp : (Shape.coeffs f).Payload arg (countWord a.length :: countWord b.length :: (a ++ b)) := by
    simp only [Shape.Payload, Shape.payloadLen, List.getD_cons_succ, List.getD_cons_zero, List.length_cons,
      List.length_append, hacount, hbcount]
    omega
  refine (decode_commandWord hrow hp rest).trans ?_
  simp only [Shape.read, List.getD_cons_zero, hacount, List.drop_succ_cons, List.drop_zero, List.take_left,
    List.drop_left]

end Encoded

theorem decode_encode {i : Instr} (hwf : i.wf = true) (hi : i.isCommand = true) (rest : List Word) :
    decode (encode i ++ rest) = .instr i rest := by
  cases i with
  | createDecOok | createDecPwm | createDecMorse | createDecRaw | createEncWave | createEncWav | createEncOok
  | createEncPwm | createEncMorse
  | getAcceptedSettingsDecOok | getAcceptedSettingsDecPwm | getAcceptedSettingsDecMorse | getAcceptedSettingsDecRaw
  | getAcceptedSettingsEncWave | getAcceptedSettingsEncWav | getAcceptedSettingsEncOok | getAcceptedSettingsEncPwm
  | getAcceptedSettingsEncMorse
  | beginSettingsDecOok | beginSettingsDecPwm | beginSettingsDecMorse | beginSettingsDecRaw | beginSettingsEncWave
  | beginSettingsEncWav | beginSettingsEncOok | beginSettingsEncPwm | beginSettingsEncMorse
  | endSettingsDecOok | endSettingsDecPwm | endSettingsDecMorse | endSettingsDecRaw | endSettingsEncWave
  | endSettingsEncWav | endSettingsEncOok | endSettingsEncPwm | endSettingsEncMorse
  | releaseDecOok | releaseDecPwm | releaseDecMorse | releaseDecRaw | releaseEncWave | releaseEncWav | releaseEncOok
  | releaseEncPwm | releaseEncMorse
  | getStatusDecOok | getStatusDecPwm | getStatusDecMorse | getStatusDecRaw | getStatusEncWave | getStatusEncWav
  | getStatusEncOok | getStatusEncPwm | getStatusEncMorse
  | terminateDecOok | terminateDecPwm | terminateDecMorse | terminateDecRaw
  | resetEncWave | resetEncWav | resetEncOok | resetEncPwm | resetEncMorse
  | fltReadOutput | fltRelease | txStop | txStatus | rxStop | rxStatus | sysStatus => exact decode_plain rfl rest
  | setSettingDecOok id v | setSettingDecPwm id v | setSettingDecMorse id v | setSettingDecRaw id v
  | setSettingEncWave id v | setSettingEncWav id v | setSettingEncOok id v | setSettingEncPwm id v
  | setSettingEncMorse id v => exact decode_setting rfl hwf rest
  | initializeDecOok | initializeDecPwm | initializeDecMorse | initializeDecRaw
  | readDecodedDecOok | readDecodedDecPwm | readDecodedDecMorse | readDecodedDecRaw
  | readCaptureDecOok | readCaptureDecPwm | readCaptureDecMorse
  | prepareNextSamplesEncWave | prepareNextSamplesEncWav | prepareNextSamplesEncOok | prepareNextSamplesEncPwm
  | prepareNextSamplesEncMorse
  | fltReadCapture | txBind | txStart | rxBind | rxStart => exact decode_argOnly rfl rest
  | parseNextSamplesDecOok | parseNextSamplesDecPwm | parseNextSamplesDecMorse | parseNextSamplesDecRaw =>
    exact decode_samples rfl hwf rest
  | pbLoad format channels bits data => exact decode_playback rfl format channels bits hwf rest
  | fltCreate n a b =>
    obtain ⟨ha, hb⟩ := Bool.and_eq_true_iff.1 hwf
    exact decode_coeffs rfl ha hb rest
  | fltSetDemod mode fw => exact decode_argWord rfl fw rest
  | fltSetCapture count => exact decode_word rfl count rest
  | fltProcessChunk offset raw => exact decode_chunk rfl hwf rest
  | evTxSent | evRxCaptured | reqTxSend | reqRxCapture | reqRxAbort => cases hi

/-- Every instruction of the event port is one word (R102). -/
theorem encode_event {i : Instr} (hi : i.isCommand = false) : ∃ w, encode i = [w] ∧ decodeEvent w = some i := by
  cases i with
  | evTxSent | evRxCaptured | reqTxSend | reqRxCapture | reqRxAbort => exact ⟨_, rfl, by simp [decodeEvent]⟩
  | _ => cases hi

/-- Settles O1: by the shape of the command's row, or by the code of the event word. -/
theorem decodeReadsEveryEncodedInstruction : Obligations.DecodeReadsEveryEncodedInstruction :=
  ⟨fun _ rest hwf hi => decode_encode hwf hi rest, fun _ hi => encode_event hi⟩

/-! What the decoder makes is well formed. -/

/-- The instructions of a row are well formed where the operands are. -/
def Shape.MakesWf : Shape → Prop
  | .plain i => i.wf = true
  | .argOnly f => ∀ arg, (f arg).wf = true
  | .setting f => ∀ id v, (f id v).wf = v.wf
  | .samples f => ∀ raw, (f raw).wf = samplesFitArg raw
  | .playback f => ∀ format channels bits data, (f format channels bits data).wf = fitsWord data.length
  | .coeffs f => ∀ n a b, (f n a b).wf = (fitsWord a.length && fitsWord b.length)
  | .argWord f => ∀ arg v, (f arg v).wf = true
  | .word f => ∀ v, (f v).wf = true
  | .chunk f => ∀ offset raw, (f offset raw).wf = fitsWord raw.length

theorem opTable_makesWf : ∀ row ∈ opTable, row.shape.MakesWf := by
  simp only [opTable, lifecycleRowsA, lifecycleRowsB, decoderRows, encoderRows, systemRows, List.forall_mem_append,
    List.forall_mem_cons, List.mem_singleton, forall_eq, Shape.MakesWf]
  and_intros <;> intros <;> rfl

theorem shape_mem_opTable {w : Word} {sh : Shape} (h : commandShape? w = some sh) : ∃ row ∈ opTable, row.shape = sh := by
  obtain ⟨row, hrow, rfl⟩ := Option.map_eq_some_iff.1 h
  exact ⟨row, List.mem_of_find?_eq_some hrow, rfl⟩

theorem fitsWord_of_le {n : Nat} {w : Word} (h : n ≤ w.toNat) : fitsWord n = true :=
  decide_eq_true (h.trans_lt w.isLt)

/-- The operands read from a whole payload fit their encoding. -/
theorem Shape.wf_read {sh : Shape} {arg : BitVec 16} {p : List Word} (hsh : sh.MakesWf) (hp : sh.Payload arg p) :
    (sh.read arg p).wf = true := by
  cases sh with
  | plain i => exact hsh
  | argOnly f => exact hsh _
  | argWord f => exact hsh _ _
  | word f => exact hsh _
  | samples f =>
    refine (hsh _).trans (decide_eq_true ?_)
    exact (length_unpackSamples_le ..).trans_lt arg.isLt
  | chunk f => exact (hsh _ _).trans (fitsWord_of_le (length_unpackSamples_le ..))
  | playback f => exact (hsh _ _ _ _).trans (fitsWord_of_le (length_unpackBytes_le ..))
  | coeffs f =>
    rw [Shape.Payload, Shape.payloadLen] at hp
    refine (hsh _ _ _).trans (Bool.and_eq_true_iff.2 ⟨fitsWord_of_le (List.length_take_le ..), ?_⟩)
    refine fitsWord_of_le (w := p.getD 1 0) ?_
    simp only [List.length_drop]
    omega
  | setting f =>
    rw [Shape.Payload, Shape.payloadLen] at hp
    have hfirst : (p.drop 1).headD 0 = p.getD 1 0 := by
      rw [List.headD_eq_head?_getD, List.head?_drop, List.getD_eq_getElem?_getD]
    refine (hsh _ _).trans (beq_iff_eq.2 ?_)
    change (p.drop 1).length = settingValueLen (p.getD 0 0) ((p.drop 1).headD 0)
    rw [hfirst, List.length_drop, ← hp, Nat.add_sub_cancel_left]

/-- Settles O2: a decoded transaction is a command word of the table and a whole payload of its shape. -/
theorem decodedCommandsAreWellFormedAndSelfContained : Obligations.DecodedCommandsAreWellFormedAndSelfContained := by
  refine ⟨fun ws i rest h => ?_, fun ws i rest more h => ?_⟩
  · obtain ⟨w, p, sh, rfl, hshape, hp, rfl⟩ := decode_eq_instr_iff.1 h
    obtain ⟨row, hrow, rfl⟩ := shape_mem_opTable hshape
    exact ⟨Shape.wf_read (opTable_makesWf row hrow) hp, decode_isCommand h, w :: p, List.cons_ne_nil w p, rfl⟩
  · obtain ⟨w, p, sh, rfl, hshape, hp, rfl⟩ := decode_eq_instr_iff.1 h
    exact decode_eq_instr_iff.2 ⟨w, p, sh, by simp, hshape, hp, rfl⟩

/-! The illegal command words (R93, R100). -/

/-- The units R93 defines an opcode for. -/
def unitsOf (opcode : Nat) : List Nat :=
  if 0x01 ≤ opcode ∧ opcode ≤ 0x07 then List.range' 1 4 ++ List.range' 8 5
  else if 0x10 ≤ opcode ∧ opcode ≤ 0x13 then List.range' 1 4
  else if opcode = 0x14 then List.range' 1 3
  else if opcode = 0x18 ∨ opcode = 0x19 then List.range' 8 5
  else if opcode = 0x1A then [9]
  else if 0x20 ≤ opcode ∧ opcode ≤ 0x26 then [0]
  else if 0x30 ≤ opcode ∧ opcode ≤ 0x33 then [16]
  else if 0x38 ≤ opcode ∧ opcode ≤ 0x3B then [17]
  else if opcode = 0x3F then [255]
  else []

theorem definedPair_iff_mem_unitsOf (opcode unit : Nat) : definedPair opcode unit = true ↔ unit ∈ unitsOf opcode := by
  simp only [definedPair, unitsOf, Bool.ite_eq_true_distrib, apply_ite (fun units : List Nat => unit ∈ units),
    Bool.or_eq_true, Bool.and_eq_true, decide_eq_true_eq, List.mem_append, List.mem_range'_1, List.mem_singleton,
    List.not_mem_nil, Bool.false_eq_true, Nat.reduceAdd, Nat.lt_succ_iff]

/-- The table has for every opcode exactly those units. -/
theorem opTable_units (opcode : Nat) : (opTable.filter (·.opcode == opcode)).map (·.unit) = unitsOf opcode := by
  have hsmall : ∀ op < 0x40, (opTable.filter (·.opcode == op)).map (·.unit) = unitsOf op := by decide
  have hlast : ∀ row ∈ opTable, row.opcode < 0x40 := by decide
  by_cases h : opcode < 0x40
  · exact hsmall opcode h
  · have hnone : opTable.filter (·.opcode == opcode) = [] :=
      List.filter_eq_nil_iff.2 fun row hrow heq => h (eq_of_beq heq ▸ hlast row hrow)
    rw [hnone, unitsOf]
    iterate 9 rw [if_neg (by omega)]
    rfl

theorem commandShape?_eq_none_iff (w : Word) :
    commandShape? w = none ↔ definedPair w.code.toNat w.unit.toNat = false := by
  rw [← Bool.not_eq_true, definedPair_iff_mem_unitsOf, ← opTable_units, commandShape?, Option.map_eq_none_iff,
    List.find?_eq_none]
  simp only [List.mem_map, List.mem_filter, Bool.and_eq_true, beq_iff_eq, not_exists, not_and, and_imp]

theorem decode_eq_illegal_iff (w : Word) (ws : List Word) :
    decode (w :: ws) = .illegal ws ↔ definedPair w.code.toNat w.unit.toNat = false := by
  rw [← commandShape?_eq_none_iff]
  cases hshape : commandShape? w with
  | none => simp [decode, hshape]
  | some sh =>
    simp only [decode, hshape]
    split <;> simp

/-- Settles O3: the table's pairs by their ranges, and HOST's turn on an illegal word. -/
theorem illegalCommandWordsAnswerBadCommand : Obligations.IllegalCommandWordsAnswerBadCommand := by
  refine ⟨decode_eq_illegal_iff, fun s w rest moves hagenda hstop hin hpair => ?_⟩
  have hdec : decode s.cmdIn = .illegal rest := by rw [hin, decode_eq_illegal_iff, hpair]
  have hhost : hostStep s = .next (illegalCommand { s with cmdIn := rest }) := by simp [hostStep, hstop, hdec]
  have hmove : moveStep (.turn .host) s = .next (illegalCommand { s with cmdIn := rest }) := hhost
  rw [step_of_agenda hagenda, hmove]
  unfold illegalCommand
  cases s.halted <;> rfl

/-- Settles O4: the decoder run on each of the words. -/
theorem specWordsDecodeToTheirCommands : Obligations.SpecWordsDecodeToTheirCommands := by
  refine ⟨?_, ?_, ?_, ?_, ?_, ?_, ?_, ?_⟩ <;> rfl

end Sys2Proof
end

section
/-! The event port: its words' effects, and the steps that run them (30_encoding.md R102; 60_exceptions.md R312). -/

namespace Sys2Proof.Machine

variable {s : State} {w : Word} {rest : List Word}

/-- A word TRANSPORT may send runs as its instruction. -/
theorem eventStep_of_event {i : Instr} (hin : s.evIn = w :: rest) (hcode : w.code = 0x80 ∨ w.code = 0x81)
    (hi : decodeEvent w = some i) : eventStep s = exec i { s with evIn := rest } := by
  have hsent : isEventCode w = true := by
    rw [isEventCode, Bool.or_eq_true, decide_eq_true_eq, decide_eq_true_eq]; exact hcode
  simp only [eventStep, hin, hsent, if_true, hi]

theorem requestStep_of_request {i : Instr} (hout : s.evOut = w :: rest) (hi : decodeEvent w = some i) :
    requestStep s = exec i { s with evOut := rest } := by
  simp only [requestStep, hout, hi]

/-- Settles O6: the rule for the head of the agenda, then the rule for the event port's turn. -/
theorem stepRunsTheWordsOfTheEventPort : Obligations.StepRunsTheWordsOfTheEventPort := by
  refine ⟨fun s w i rest moves hagenda hin hcode hi => ?event, fun s w rest moves hagenda hin h80 h81 => ?dropped,
    fun s w i rest moves hagenda hout hi => ?request⟩
  case event =>
    rw [← eventStep_of_event hin hcode hi]
    exact step_of_agenda hagenda
  case dropped =>
    have hmove : moveStep (.turn .event) s = .next { s with evIn := rest } := by
      change eventStep s = _
      rw [eventStep_cons hin, if_neg h80, if_neg h81]
    rw [step_of_agenda hagenda, hmove]
  case request =>
    rw [← requestStep_of_request hout hi]
    exact step_of_agenda hagenda

/-- A grant of buffer `j` ends; any other stays. -/
theorem Grant.endIf_eq (j : Byte) (g : Option Grant) : Grant.endIf j g = if g.map (·.buf) = some j then none else g := by
  cases g with
  | none => rfl
  | some g => simp [Grant.endIf]

/-- Settles O53: the five meanings, a grant's end written as a condition on its buffer. -/
theorem eventPortWordsMoveBuffersOnly : Obligations.EventPortWordsMoveBuffersOnly := by
  intro buf count s
  simp only [← Grant.endIf_eq]
  exact ⟨rfl, rfl, rfl, rfl, rfl⟩

end Sys2Proof.Machine
end

section
/-! The status words of the schedulers, field by field (30_encoding.md R95). -/

namespace Sys2Proof.Machine

section Fields

variable (a b c : BitVec 8) (f g : Bool) (p q : BitVec 3)

/-- A word of three bytes, two flags and two fields of three bits, as `TX_STATUS` and `RX_STATUS` answer it. -/
def schedulerWord : Word := a ++ b ++ c ++ flagBit f ++ flagBit g ++ p ++ q

theorem schedulerWord_fields :
    (schedulerWord a b c f g p q).extractLsb' 0 3 = q ∧ (schedulerWord a b c f g p q).extractLsb' 3 3 = p ∧
      (schedulerWord a b c f g p q).getLsbD 6 = g ∧ (schedulerWord a b c f g p q).getLsbD 7 = f ∧
      (schedulerWord a b c f g p q).extractLsb' 8 8 = c ∧ (schedulerWord a b c f g p q).extractLsb' 16 8 = b ∧
      (schedulerWord a b c f g p q).extractLsb' 24 8 = a := by
  unfold schedulerWord
  refine ⟨?_, ?_, ?_, ?_, ?_, ?_, ?_⟩
  · exact BitVec.extractLsb'_append_eq_right
  · rw [BitVec.extractLsb'_append_eq_of_le (by decide)]
    exact BitVec.extractLsb'_append_eq_right
  · iterate 3 rw [BitVec.getLsbD_append]
    cases g <;> rfl
  · iterate 4 rw [BitVec.getLsbD_append]
    cases f <;> rfl
  · iterate 4 rw [BitVec.extractLsb'_append_eq_of_le (by decide)]
    exact BitVec.extractLsb'_append_eq_right
  · iterate 5 rw [BitVec.extractLsb'_append_eq_of_le (by decide)]
    exact BitVec.extractLsb'_append_eq_right
  · iterate 5 rw [BitVec.extractLsb'_append_eq_of_le (by decide)]
    exact BitVec.extractLsb'_append_eq_left

end Fields

theorem Txs.statusBits_eq (t : Txs) :
    t.statusBits = schedulerWord (match t.enc with | some e => encNumber e | none => 0xFF) (BitVec.ofNat 8 t.fillIdx)
      (noneByte t.inflight) t.forced t.stopReq (t.phase.code.setWidth 3) (t.state.code.setWidth 3) := rfl

theorem Rxs.statusBits_eq (r : Rxs) :
    r.statusBits = schedulerWord (match r.dec with | some d => decNumber d | none => 0xFF) (BitVec.ofNat 8 r.wrIdx)
      (noneByte r.armedBuf) r.forced r.stopReq (r.phase.code.setWidth 3) (r.state.code.setWidth 3) := rfl

/-- A 64-bit counter is answered low word first (R94). -/
theorem wordsOf64_eq (v : BitVec 64) : wordsOf64 v = [v.setWidth 32, (v >>> 32).setWidth 32] := by
  have hlow : v.extractLsb' 0 32 = v.setWidth 32 := BitVec.setWidth_eq_extractLsb' (by decide) |>.symm
  have hhigh : v.extractLsb' 32 32 = (v >>> 32).setWidth 32 := by
    ext i hi; simp
  rw [wordsOf64, hlow, hhigh]

theorem exec_txStatus {s : State} (hrun : s.halted = false) :
    exec .txStatus s = .next (s.respond .ok 0 s.txs.statusWords) :=
  blockCommand_done hrun rfl

theorem exec_rxStatus {s : State} (hrun : s.halted = false) :
    exec .rxStatus s = .next (s.respond .ok 0 s.rxs.statusWords) :=
  blockCommand_done hrun rfl

/-- Settles O51: the first word's fields, and the words after it. -/
theorem statusReadsShowTheSchedulers : Obligations.StatusReadsShowTheSchedulers := by
  refine ⟨fun s hrun => ⟨s.txs.statusBits, ?_, s.txs.statusBits_eq ▸ schedulerWord_fields ..⟩,
    fun s hrun => ⟨s.rxs.statusBits, ?_, s.rxs.statusBits_eq ▸ schedulerWord_fields ..⟩⟩
  · have hstatus : statusWord .ok 0 3 = 0x00030000 := by decide
    rw [exec_txStatus hrun, Txs.statusWords, wordsOf64_eq, ← hstatus]
    rfl
  · have hstatus : statusWord .ok 0 6 = 0x00060000 := by decide
    rw [exec_rxStatus hrun, Rxs.statusWords, wordsOf64_eq, wordsOf64_eq, ← hstatus]
    rfl

end Sys2Proof.Machine
end

section
/-! `GET_ACCEPTED_SETTINGS` (30_encoding.md R99; 41_lifecycle_settings.md R144). -/

namespace Sys2Proof.Machine

theorem exec_acceptedSettings (u : PluginUnit) (s : State) :
    exec (Instr.acceptedSettings u) s = acceptedSettingsCommand u s := by
  rcases u with (_ | _ | _ | _) | (_ | _ | _ | _ | _) <;> rfl

/-- A unit that exists describes its settings, busy or not (R144). -/
theorem acceptedSettingsCommand_answers {u : PluginUnit} {s : State} (hrun : s.halted = false)
    (hlc : (s.plug u).lc ≠ .absent) : acceptedSettingsCommand u s = .next (s.respond .ok 0 (acceptedSettings u)) :=
  pluginCommand_done hrun (.inl rfl) (decide_eq_true hlc) rfl

theorem hasRange_iff (tag : Nat) : hasRange tag = true ↔ 1 ≤ tag ∧ tag ≤ 8 := by
  rw [hasRange, Bool.and_eq_true, decide_eq_true_eq, decide_eq_true_eq]

/-- No tag has both a range and captions (R99). -/
theorem settingRecord_flags (tag : Nat) :
    ((if 1 ≤ tag ∧ tag ≤ 8 then 1 else 0) ||| (if tag = 12 then 2 else 0) : BitVec 8) =
      if 1 ≤ tag ∧ tag ≤ 8 then 1 else if tag = 12 then 2 else 0 := by
  by_cases hcaptions : tag = 12
  · have hrange : ¬ (1 ≤ tag ∧ tag ≤ 8) := by omega
    rw [if_neg hrange, if_neg hrange, if_pos hcaptions]
    exact BitVec.zero_or
  · rw [if_neg hcaptions]
    exact BitVec.or_zero

theorem stringWords_asciiBytes (name : String) :
    stringWords (asciiBytes name) =
      BitVec.ofNat 32 name.toList.length :: packBytes (name.toList.map (fun c => BitVec.ofNat 8 c.toNat)) := by
  rw [stringWords, asciiBytes, List.length_map, countWord]

theorem settingTable_ids_rise (u : PluginUnit) : ((settingTable u).map (·.id)).Pairwise (· < ·) := by
  rcases u with (_ | _ | _ | _) | (_ | _ | _ | _ | _) <;> decide

/-- Settles O20: the command's words are one record a setting, each as R99 lays it out. -/
theorem acceptedSettingsAreDescribed : Obligations.AcceptedSettingsAreDescribed := by
  intro u s hrun hlc text record words
  have hrecord : settingRecord = record := by
    funext d
    simp only [settingRecord, hasRange_iff, beq_iff_eq, settingRecord_flags, fieldsWord, countWord,
      stringWords_asciiBytes, record, text, List.singleton_append]
  have hwords : acceptedSettings u = words := by
    rw [acceptedSettings, hrecord, countWord]
  refine ⟨?_, settingTable_ids_rise u, ?_, ?_⟩
  · rw [exec_acceptedSettings, acceptedSettingsCommand_answers hrun hlc, hwords]
    rfl
  · rintro rfl
    rfl
  · rintro rfl
    rw [← hwords]
    decide

end Sys2Proof.Machine
end

section
/-! `SET_SETTING` refused (41_lifecycle_settings.md R145). -/

namespace Sys2Proof.Machine

variable {u : PluginUnit} {s : State} {id : BitVec 16} {v : SettingArg} {d : SettingDef}

/-- The state and the answer a refused `SET_SETTING` leaves (R145). -/
def settingRejected (u : PluginUnit) (s : State) (st : Status) (detail : BitVec 8) : State :=
  (s.setPlug u ((s.plug u).noteSettingRejected st)).respond st detail []

theorem setSettingCommand_unknown (hadm : Admits s u .config) (hdef : settingDef? u id.toNat = none) :
    setSettingCommand u id v s = .next (settingRejected u s .unknownSetting 0) :=
  pluginCommand_done hadm.running (.inr hadm.free) (by simp [hadm.state]) (by simp only [hdef, settingFail])

theorem setSettingCommand_badType (hadm : Admits s u .config) (hdef : settingDef? u id.toNat = some d)
    (htag : v.tag.toNat ≠ d.default.tag) :
    setSettingCommand u id v s = .next (settingRejected u s .badType (BitVec.ofNat 8 d.default.tag)) :=
  pluginCommand_done hadm.running (.inr hadm.free) (by simp [hadm.state])
    (by simp only [hdef, ne_eq, htag, not_false_eq_true, if_true, settingFail])

theorem acceptedValue?_eq_none (hbad : ∀ x, settingValue? v = some x → d.legal x = false) : acceptedValue? d v = none := by
  unfold acceptedValue?
  cases hval : settingValue? v with
  | none => rfl
  | some x => simp [hbad x hval]

theorem setSettingCommand_outOfRange (hadm : Admits s u .config) (hdef : settingDef? u id.toNat = some d)
    (htag : v.tag.toNat = d.default.tag) (hbad : ∀ x, settingValue? v = some x → d.legal x = false) :
    setSettingCommand u id v s = .next (settingRejected u s .outOfRange 0) :=
  pluginCommand_done hadm.running (.inr hadm.free) (by simp [hadm.state])
    (by simp only [hdef, ne_eq, htag, not_true_eq_false, if_false, acceptedValue?_eq_none hbad, settingFail])

/-- Settles O23: the three refusals; DEC_RAW has no setting to find (R202). -/
theorem setSettingRefusesBadOperands : Obligations.SetSettingRefusesBadOperands := by
  refine ⟨fun u s id v hadm => ?_, fun s id v hadm => ?_⟩
  · simp only [exec_setSetting]
    exact ⟨setSettingCommand_unknown hadm, fun d => setSettingCommand_badType hadm,
      fun d => setSettingCommand_outOfRange hadm⟩
  · exact setSettingCommand_unknown (u := .dec .raw) (id := id) (v := v) hadm rfl

end Sys2Proof.Machine
end

section
/-! What HOST's commands leave where they are refused (30_encoding.md R96; 60_exceptions.md R301, R306). -/

namespace Sys2Proof.Machine

/-- Settles O7: a command ends in an effect and an answer, an event word in a change of its queue or of TRANSPORT's side. -/
theorem instructionsNeverStop : Obligations.InstructionsNeverStop := by
  intro i s
  cases hi : i.isCommand with
  | true =>
    obtain ⟨-, t, h, -⟩ := exec_effect hi s
    exact ⟨t, h⟩
  | false =>
    obtain ⟨w, -, hw⟩ := encode_event hi
    obtain ⟨t, h, -⟩ := exec_decodeEvent hw s
    exact ⟨t, h⟩

/-! The fields of a status word (R96). -/

theorem statusWord_code (st : Status) (detail : BitVec 8) (n : Nat) :
    (statusWord st detail n).extractLsb' 0 8 = st.code :=
  BitVec.extractLsb'_append_eq_right

theorem statusWord_detail (st : Status) (detail : BitVec 8) (n : Nat) :
    (statusWord st detail n).extractLsb' 8 8 = detail := by
  rw [statusWord, BitVec.extractLsb'_append_eq_of_le (by decide)]
  exact BitVec.extractLsb'_append_eq_right

theorem statusWord_rlen (st : Status) (detail : BitVec 8) (n : Nat) :
    (statusWord st detail n).extractLsb' 16 16 = rlenField n := by
  rw [statusWord, BitVec.extractLsb'_append_eq_of_le (by decide)]
  exact BitVec.extractLsb'_append_eq_left

theorem Status.code_eq_halted {st : Status} : st.code = 0x0B ↔ st = .halted := by
  cases st <;> decide

/-- A command's own rule answers OK where it is done, and refuses with a code other than that of a halted PLCPHY. -/
def CmdResult.Proper : CmdResult → Prop
  | .done _ st _ _ => st = .ok
  | .refuse st _ => st ≠ .halted
  | .fatal _ => True

/-- What a command seen as `v` may leave where its answer `w :: ws` has a code other than OK (R96, R301, R306). -/
def RefusalLeaves (v : InstrView) (s t : State) (w : Word) (ws : List Word) : Prop :=
  ws = [] ∧ w.extractLsb' 16 16 = 0 ∧
    (s.halted = true → w.extractLsb' 0 8 = 0x0B ∧ w.extractLsb' 8 8 = s.fatalCode) ∧
    t = (if s.halted = true then { s with rsp := [w] }
         else if w.extractLsb' 0 8 = 0x0B then { s with halted := true, fatalCode := w.extractLsb' 8 8, rsp := [w] }
         else match v with
           | .plugin _ u => { s.setPlug u { s.plug u with errStatus := w.extractLsb' 0 8 } with rsp := [w] }
           | _ => { s with rsp := [w] })

/-- Where the outcome answers with a code other than OK, it leaves no more than a refusal may. -/
structure RefusalFrame (v : InstrView) (s : State) (o : Host.Outcome State Fault Refusal) : Prop where
  leaves : ∀ {t w ws}, o = .next t → t.rsp = w :: ws → w.extractLsb' 0 8 ≠ 0 → RefusalLeaves v s t w ws

variable {s t : State} {v : InstrView} {o : Host.Outcome State Fault Refusal}

theorem RefusalFrame.of_ok {detail : BitVec 8} {ws : List Word} (h : o = .next (t.respond .ok detail ws)) :
    RefusalFrame v s o := by
  refine ⟨fun hr hrsp hcode => ?_⟩
  rw [h] at hr
  cases hr
  cases hrsp
  exact absurd (statusWord_code ..) hcode

theorem RefusalFrame.of_leaves {w : Word} (h : o = .next t) (hrsp : t.rsp = [w]) (hleaves : RefusalLeaves v s t w []) :
    RefusalFrame v s o := by
  refine ⟨fun hr hrsp' _ => ?_⟩
  rw [h] at hr
  cases hr
  rw [hrsp] at hrsp'
  cases hrsp'
  exact hleaves

theorem refusalFrame_answerHalted (hhalt : s.halted = true) (h : o = .next s.answerHalted) : RefusalFrame v s o := by
  refine .of_leaves h (State.respond_rsp ..)
    ⟨rfl, statusWord_rlen .., fun _ => ⟨statusWord_code .., statusWord_detail ..⟩, ?_⟩
  rw [if_pos hhalt]
  rfl

theorem refusalFrame_failFatal {c : FatalCode} (hrun : s.halted = false) (h : o = .next (s.failFatal c)) :
    RefusalFrame v s o := by
  have hnot : ¬ s.halted = true := Bool.eq_false_iff.1 hrun
  refine .of_leaves h (State.respond_rsp ..) ⟨rfl, statusWord_rlen .., fun hhalt => absurd hhalt hnot, ?_⟩
  rw [failFatal_eq, if_neg hnot, if_neg hnot, statusWord_code,
    if_pos (Status.code_eq_halted.2 rfl), statusWord_detail]
  rfl

/-- A refusal of a running PLCPHY is no fatal error: its code is another. -/
theorem refusalFrame_respond {st : Status} {detail : BitVec 8} (hrun : s.halted = false) (hst : st ≠ .halted)
    (h : o = .next (s.respond st detail [])) : RefusalFrame .system s o := by
  have hnot : ¬ s.halted = true := Bool.eq_false_iff.1 hrun
  refine .of_leaves h (State.respond_rsp ..) ⟨rfl, statusWord_rlen .., fun hhalt => absurd hhalt hnot, ?_⟩
  rw [if_neg hnot, statusWord_code, if_neg (mt Status.code_eq_halted.1 hst)]
  rfl

theorem refusalFrame_refusePlugin {op : PluginOp} {u : PluginUnit} {st : Status} {detail : BitVec 8}
    (hrun : s.halted = false) (hst : st ≠ .halted) (h : o = .next (s.refusePlugin u st detail)) :
    RefusalFrame (.plugin op u) s o := by
  have hnot : ¬ s.halted = true := Bool.eq_false_iff.1 hrun
  refine .of_leaves h (State.respond_rsp ..) ⟨rfl, statusWord_rlen .., fun hhalt => absurd hhalt hnot, ?_⟩
  rw [if_neg hnot, statusWord_code, if_neg (mt Status.code_eq_halted.1 hst), refusePlugin_eq]
  rfl

theorem blockCommand_refusalFrame {body : CmdResult} (hbody : body.Proper) :
    RefusalFrame .system s (blockCommand s body) := by
  rcases blockCommand_cases s body with ⟨hhalt, e⟩ | ⟨-, r, st, d, ws, rfl, e⟩ | ⟨hrun, st, d, rfl, e⟩ |
    ⟨hrun, c, rfl, e⟩
  · exact refusalFrame_answerHalted hhalt e
  · obtain rfl : st = .ok := hbody
    exact .of_ok e
  · exact refusalFrame_respond hrun hbody e
  · exact refusalFrame_failFatal hrun e

theorem pluginCommand_refusalFrame {op : PluginOp} {u : PluginUnit} {exempt : Bool} {legal : Lc → Bool}
    {body : CmdResult} (hbody : body.Proper) : RefusalFrame (.plugin op u) s (pluginCommand u exempt legal s body) := by
  rcases pluginCommand_cases u exempt legal s body with ⟨hhalt, e⟩ | ⟨hrun, -, -, e⟩ | ⟨hrun, -, -, e⟩ |
    ⟨hrun, -, -, ⟨r, st, d, ws, rfl, e⟩ | ⟨st, d, rfl, e⟩ | ⟨c, rfl, e⟩⟩
  · exact refusalFrame_answerHalted hhalt e
  · exact refusalFrame_refusePlugin (st := .busy) hrun nofun e
  · exact refusalFrame_refusePlugin (st := .badState) hrun nofun e
  · obtain rfl : st = .ok := hbody
    exact .of_ok e
  · exact refusalFrame_refusePlugin hrun hbody e
  · exact refusalFrame_failFatal hrun e

/-! The commands of a plugin unit. -/

section PluginCommands

variable (u : PluginUnit) (d : DecUnit) (e : EncUnit) (s : State)

theorem createCommand_refusalFrame : RefusalFrame (.plugin .create u) s (createCommand u s) :=
  pluginCommand_refusalFrame (body := .succeed _ _) rfl

theorem acceptedSettingsCommand_refusalFrame :
    RefusalFrame (.plugin .accepted u) s (acceptedSettingsCommand u s) :=
  pluginCommand_refusalFrame (body := .succeed _ _) rfl

theorem beginSettingsCommand_refusalFrame : RefusalFrame (.plugin .beginSet u) s (beginSettingsCommand u s) :=
  pluginCommand_refusalFrame (body := .succeed _ _) rfl

theorem releaseCommand_refusalFrame : RefusalFrame (.plugin .release u) s (releaseCommand u s) :=
  pluginCommand_refusalFrame (body := .succeed _ _) rfl

theorem getStatusCommand_refusalFrame : RefusalFrame (.plugin .getStatus u) s (getStatusCommand u s) :=
  pluginCommand_refusalFrame (body := .succeed _ _) rfl

theorem initializeBody_proper (n : BitVec 16) : (initializeBody d n s).Proper := by
  unfold initializeBody
  split
  · exact nofun
  · cases d with
    | raw => exact rfl
    | ook | pwm | morse => dsimp only; split <;> trivial

theorem initializeCommand_refusalFrame (n : BitVec 16) :
    RefusalFrame (.plugin .init (.dec d)) s (initializeCommand d n s) := by
  refine pluginCommand_refusalFrame ?_
  split
  · exact nofun
  · exact initializeBody_proper d s n

theorem parseCommand_refusalFrame (raw : List Sample) :
    RefusalFrame (.plugin .parse (.dec d)) s (parseCommand d raw s) := by
  refine pluginCommand_refusalFrame ?_
  split
  · trivial
  · exact rfl

theorem terminateCommand_refusalFrame : RefusalFrame (.plugin .terminate (.dec d)) s (terminateCommand d s) :=
  pluginCommand_refusalFrame (body := .succeed _ _) rfl

theorem readDecodedCommand_refusalFrame (m : BitVec 16) :
    RefusalFrame (.plugin .readDecoded (.dec d)) s (readDecodedCommand d m s) :=
  pluginCommand_refusalFrame (body := .succeed _ _) rfl

theorem readCaptureCommand_refusalFrame (m : BitVec 16) :
    RefusalFrame (.plugin .readCapture (.dec d)) s (readCaptureCommand d m s) := by
  refine pluginCommand_refusalFrame ?_
  split
  · exact nofun
  · split
    · exact nofun
    · exact rfl

theorem resetCommand_refusalFrame : RefusalFrame (.plugin .reset (.enc e)) s (resetCommand e s) := by
  refine pluginCommand_refusalFrame ?_
  split
  · exact nofun
  · exact rfl

theorem prepareCommand_refusalFrame (k : BitVec 16) :
    RefusalFrame (.plugin .prepare (.enc e)) s (prepareCommand e k s) := by
  refine pluginCommand_refusalFrame ?_
  split
  · trivial
  · exact rfl

theorem execPbLoad_refusalFrame (format channels bits : BitVec 16) (data : List Byte) :
    RefusalFrame (.plugin .pbLoad (.enc .wav)) s (execPbLoad format channels bits data s) := by
  refine pluginCommand_refusalFrame ?_
  split
  · exact nofun
  · exact rfl

end PluginCommands

/-! The commands of the filter. -/

section FilterCommands

variable (s : State)

theorem execFltCreate_refusalFrame (n : BitVec 16) (a b : List Real32) :
    RefusalFrame .system s (execFltCreate n a b s) := by
  refine blockCommand_refusalFrame ?_
  split_ifs
  iterate 4 exact nofun
  split
  · trivial
  · exact rfl

theorem execFltSetDemod_refusalFrame (mode : BitVec 16) (fw : Word) :
    RefusalFrame .system s (execFltSetDemod mode fw s) := by
  refine blockCommand_refusalFrame ?_
  split
  · exact nofun
  · split
    · exact nofun
    · exact rfl

theorem execFltSetCapture_refusalFrame (count : Word) : RefusalFrame .system s (execFltSetCapture count s) := by
  refine blockCommand_refusalFrame ?_
  split_ifs
  iterate 2 exact nofun
  exact rfl

theorem execFltProcessChunk_refusalFrame (offset : Sample) (raw : List Sample) :
    RefusalFrame .system s (execFltProcessChunk offset raw s) := by
  refine blockCommand_refusalFrame ?_
  split
  · exact nofun
  · split
    · trivial
    · exact rfl

theorem execFltReadOutput_refusalFrame : RefusalFrame .system s (execFltReadOutput s) := by
  refine blockCommand_refusalFrame ?_
  split_ifs
  iterate 2 exact nofun
  exact rfl

theorem execFltReadCapture_refusalFrame (m : BitVec 16) : RefusalFrame .system s (execFltReadCapture m s) := by
  refine blockCommand_refusalFrame ?_
  split
  · exact nofun
  · exact rfl

theorem execFltRelease_refusalFrame : RefusalFrame .system s (execFltRelease s) := by
  refine blockCommand_refusalFrame ?_
  split
  · exact nofun
  · exact rfl

end FilterCommands

/-! The commands of the schedulers and the system. -/

section SchedulerCommands

variable (s : State)

theorem execTxBind_refusalFrame (unit : BitVec 16) : RefusalFrame .system s (execTxBind unit s) := by
  refine blockCommand_refusalFrame ?_
  unfold txBindBody
  iterate 5 (split; · exact nofun)
  exact rfl

theorem execRxBind_refusalFrame (unit : BitVec 16) : RefusalFrame .system s (execRxBind unit s) := by
  refine blockCommand_refusalFrame ?_
  unfold rxBindBody
  iterate 5 (split; · exact nofun)
  exact rfl

theorem execTxStart_refusalFrame (n : BitVec 16) : RefusalFrame .system s (execTxStart n s) := by
  refine blockCommand_refusalFrame ?_
  unfold txStartBody
  iterate 6 (split; · exact nofun)
  exact rfl

/-- A session of RXS is refused for a reason of its own, or for one of its decoder's (R281). -/
theorem execRxStart_refusalFrame (n : BitVec 16) : RefusalFrame .system s (execRxStart n s) := by
  refine blockCommand_refusalFrame ?_
  unfold rxStartBody
  iterate 3 (split; · exact nofun)
  rename_i d _
  iterate 3 (split; · exact nofun)
  have hinit := initializeBody_proper d s n
  split
  · exact rfl
  · rename_i heq
    rw [heq] at hinit
    exact hinit
  · trivial

/-- A withheld stop gives no answer (R275, R289). -/
theorem refusalFrame_withheld {r : State} (hr : r.rsp = []) : RefusalFrame v s (.next r) := by
  refine ⟨fun ht hrsp _ => ?_⟩
  cases ht
  rw [hr] at hrsp
  cases hrsp

theorem execTxStop_refusalFrame : RefusalFrame .system s (execTxStop s) := by
  unfold execTxStop
  split
  · exact blockCommand_refusalFrame (body := .succeed _ _) rfl
  · exact refusalFrame_withheld s rfl

theorem execRxStop_refusalFrame : RefusalFrame .system s (execRxStop s) := by
  unfold execRxStop
  split
  · exact blockCommand_refusalFrame (body := .succeed _ _) rfl
  · exact refusalFrame_withheld s rfl

theorem execTxStatus_refusalFrame : RefusalFrame .system s (execTxStatus s) :=
  blockCommand_refusalFrame (body := .succeed _ _) rfl

theorem execRxStatus_refusalFrame : RefusalFrame .system s (execRxStatus s) :=
  blockCommand_refusalFrame (body := .succeed _ _) rfl

/-- `SYS_STATUS` answers OK, halted or not (R308). -/
theorem execSysStatus_refusalFrame : RefusalFrame .system s (execSysStatus s) := .of_ok rfl

end SchedulerCommands

/-- Every command but the two that write the flags of a settings transaction. -/
theorem exec_refusalFrame {i : Instr} (hi : i.isCommand = true)
    (hview : ∀ u, i.view ≠ .plugin .setSetting u ∧ i.view ≠ .plugin .endSet u) (s : State) :
    RefusalFrame i.view s (exec i s) := by
  cases i with
  | createDecOok | createDecPwm | createDecMorse | createDecRaw | createEncWave | createEncWav | createEncOok
  | createEncPwm | createEncMorse => exact createCommand_refusalFrame ..
  | getAcceptedSettingsDecOok | getAcceptedSettingsDecPwm | getAcceptedSettingsDecMorse | getAcceptedSettingsDecRaw
  | getAcceptedSettingsEncWave | getAcceptedSettingsEncWav | getAcceptedSettingsEncOok | getAcceptedSettingsEncPwm
  | getAcceptedSettingsEncMorse => exact acceptedSettingsCommand_refusalFrame ..
  | beginSettingsDecOok | beginSettingsDecPwm | beginSettingsDecMorse | beginSettingsDecRaw | beginSettingsEncWave
  | beginSettingsEncWav | beginSettingsEncOok | beginSettingsEncPwm | beginSettingsEncMorse =>
    exact beginSettingsCommand_refusalFrame ..
  | setSettingDecOok | setSettingDecPwm | setSettingDecMorse | setSettingDecRaw | setSettingEncWave
  | setSettingEncWav | setSettingEncOok | setSettingEncPwm | setSettingEncMorse => exact absurd rfl (hview _).1
  | endSettingsDecOok | endSettingsDecPwm | endSettingsDecMorse | endSettingsDecRaw | endSettingsEncWave
  | endSettingsEncWav | endSettingsEncOok | endSettingsEncPwm | endSettingsEncMorse => exact absurd rfl (hview _).2
  | releaseDecOok | releaseDecPwm | releaseDecMorse | releaseDecRaw | releaseEncWave | releaseEncWav | releaseEncOok
  | releaseEncPwm | releaseEncMorse => exact releaseCommand_refusalFrame ..
  | getStatusDecOok | getStatusDecPwm | getStatusDecMorse | getStatusDecRaw | getStatusEncWave | getStatusEncWav
  | getStatusEncOok | getStatusEncPwm | getStatusEncMorse => exact getStatusCommand_refusalFrame ..
  | initializeDecOok | initializeDecPwm | initializeDecMorse | initializeDecRaw =>
    exact initializeCommand_refusalFrame ..
  | parseNextSamplesDecOok raw | parseNextSamplesDecPwm raw | parseNextSamplesDecMorse raw
  | parseNextSamplesDecRaw raw => exact parseCommand_refusalFrame _ s raw
  | terminateDecOok | terminateDecPwm | terminateDecMorse | terminateDecRaw => exact terminateCommand_refusalFrame ..
  | readDecodedDecOok | readDecodedDecPwm | readDecodedDecMorse | readDecodedDecRaw =>
    exact readDecodedCommand_refusalFrame ..
  | readCaptureDecOok | readCaptureDecPwm | readCaptureDecMorse => exact readCaptureCommand_refusalFrame ..
  | resetEncWave | resetEncWav | resetEncOok | resetEncPwm | resetEncMorse => exact resetCommand_refusalFrame ..
  | prepareNextSamplesEncWave | prepareNextSamplesEncWav | prepareNextSamplesEncOok | prepareNextSamplesEncPwm
  | prepareNextSamplesEncMorse => exact prepareCommand_refusalFrame ..
  | pbLoad => exact execPbLoad_refusalFrame ..
  | fltCreate => exact execFltCreate_refusalFrame ..
  | fltSetDemod => exact execFltSetDemod_refusalFrame ..
  | fltSetCapture => exact execFltSetCapture_refusalFrame ..
  | fltProcessChunk => exact execFltProcessChunk_refusalFrame ..
  | fltReadOutput => exact execFltReadOutput_refusalFrame ..
  | fltReadCapture => exact execFltReadCapture_refusalFrame ..
  | fltRelease => exact execFltRelease_refusalFrame ..
  | txBind => exact execTxBind_refusalFrame ..
  | txStart => exact execTxStart_refusalFrame ..
  | txStop => exact execTxStop_refusalFrame ..
  | txStatus => exact execTxStatus_refusalFrame ..
  | rxBind => exact execRxBind_refusalFrame ..
  | rxStart => exact execRxStart_refusalFrame ..
  | rxStop => exact execRxStop_refusalFrame ..
  | rxStatus => exact execRxStatus_refusalFrame ..
  | sysStatus => exact execSysStatus_refusalFrame ..
  | evTxSent | evRxCaptured | reqTxSend | reqRxCapture | reqRxAbort => cases hi

/-- Settles O11: the frame of a refused command, for every instruction. -/
theorem refusedCommandsChangeErrStatusOnly : Obligations.RefusedCommandsChangeErrStatusOnly :=
  fun _ s _ _ _ hi hview h hrsp hcode => (exec_refusalFrame hi hview s).leaves h hrsp hcode

end Sys2Proof.Machine
end

section
/-! `PREPARE_NEXT_SAMPLES` (43_encoders.md R211, R237): the samples of every encoder are TX samples, and generating can be
split anywhere. -/

namespace Sys2Proof.Machine

/-! One sample lies in 0..TX_MAX. -/

/-- A precomputed sample is an entry of the lookup memory, or 0 outside it; any other is a clamped tone (R216). -/
theorem EncWave.sweepSample_le (u : EncWave) (hlut : ∀ row ∈ u.swLut, ∀ v ∈ row, v.toNat ≤ Config.txMax) :
    u.sweepSample.1.toNat ≤ Config.txMax := by
  rw [EncWave.sweepSample_fst]
  split
  · rw [List.getD_eq_getElem?_getD, List.getD_eq_getElem?_getD]
    cases hrow : u.swLut[u.sweepIter.toNat]? with
    | none => exact Nat.zero_le _
    | some row =>
      cases hv : row[u.sweepN.toNat]? with
      | none => simp [hv]
      | some v => simpa [hv] using hlut row (List.mem_of_getElem? hrow) v (List.mem_of_getElem? hv)
  · exact clampTX_le _

theorem EncWave.sample_le (u : EncWave) (hlut : ∀ row ∈ u.swLut, ∀ v ∈ row, v.toNat ≤ Config.txMax) :
    u.sample.1.toNat ≤ Config.txMax := by
  unfold EncWave.sample
  dsimp only
  split
  · exact clampTX_le _
  · exact clampTX_le _
  · split <;> exact clampTX_le _
  · split <;> exact clampTX_le _
  · exact clampTX_le _
  · exact u.sweepSample_le hlut

theorem rescale8_le (b : Byte) : (rescale8 b).toNat ≤ Config.txMax := by
  have hb := b.isLt
  rw [rescale8, Params.plcphy_txBits, BitVec.toNat_ofNat]
  change _ ≤ 1023
  omega

theorem rescale16_le (lo hi : Byte) : (rescale16 lo hi).toNat ≤ Config.txMax := by
  have hlow := (hi ++ lo : BitVec 16).le_toInt
  have hhigh := (hi ++ lo : BitVec 16).toInt_lt
  rw [rescale16, Params.plcphy_txBits, BitVec.toNat_ofNat]
  change _ ≤ 1023
  omega

theorem EncWav.sample_le (pbm : List Host.Cell) (u : EncWav) (hlvl : u.lvl0.toNat ≤ Config.txMax) :
    (u.sample pbm).1.toNat ≤ Config.txMax := by
  unfold EncWav.sample
  dsimp only
  split
  · exact u.atEnd_lvl0 ▸ hlvl
  · split
    · exact rescale8_le _
    · exact rescale16_le _ _

theorem EncSeq.sample_le (u : EncSeq) (hlvl : u.lvl0.toNat ≤ Config.txMax) : u.sample.1.toNat ≤ Config.txMax := by
  obtain ⟨i, a, c, d, hload⟩ := EncSeq.load_frame (u.segs.drop u.segIdx.toNat) u
  unfold EncSeq.sample
  dsimp only
  rw [hload]
  split
  · exact hlvl
  · exact clampTX_le _

variable {s : State} {e : EncUnit}

theorem encSample_le (hs : LevelInv s) : (encSample e s).1.toNat ≤ Config.txMax := by
  cases e with
  | wave => exact s.encWave.sample_le hs.lut
  | wav => exact s.encWav.sample_le s.pbm hs.wav
  | ook => exact s.encOok.sample_le hs.ook
  | pwm => exact s.encPwm.sample_le hs.pwm
  | morse => exact s.encMorse.sample_le hs.morse

/-! Many samples. -/

theorem encSamples_le {k : Nat} (hs : LevelInv s) : ∀ v ∈ (encSamples e k s).1, v.toNat ≤ Config.txMax := by
  induction k generalizing s with
  | zero => exact nofun
  | succ k ih =>
    rintro v hv
    rcases List.mem_cons.1 hv with rfl | hv
    · exact encSample_le hs
    · exact ih (hs.of_levels (levels_encSample e s)) v hv

theorem onlyUnit_encSample (e : EncUnit) (s : State) : OnlyUnit (.enc e) s (encSample e s).2 where
  others v hv := by
    cases e <;> rcases v with (_ | _ | _ | _) | (_ | _ | _ | _ | _) <;> first | exact absurd rfl hv | rfl
  system := by cases e <;> rfl
  ports := by cases e <;> rfl

theorem onlyUnit_encSamples (e : EncUnit) (k : Nat) (s : State) : OnlyUnit (.enc e) s (encSamples e k s).2 := by
  induction k generalizing s with
  | zero => exact ⟨fun _ _ => rfl, rfl, rfl⟩
  | succ k ih => exact (onlyUnit_encSample e s).trans (ih _)

theorem encSamples_rsp (e : EncUnit) (k : Nat) (s : State) : (encSamples e k s).2.rsp = s.rsp := by
  obtain ⟨-, -, a, b, c, d, f, heq⟩ := encSamples_frame e k s
  rw [heq]

/-- Generating can be split anywhere (R237). -/
theorem encSamples_add (e : EncUnit) (k₁ k₂ : Nat) (s : State) :
    encSamples e (k₁ + k₂) s =
      ((encSamples e k₁ s).1 ++ (encSamples e k₂ (encSamples e k₁ s).2).1, (encSamples e k₂ (encSamples e k₁ s).2).2) := by
  induction k₁ generalizing s with
  | zero => rw [Nat.zero_add]; rfl
  | succ k₁ ih =>
    rw [Nat.succ_add]
    simp only [encSamples, ih, List.cons_append]

/-! The command. -/

theorem exec_prepare (e : EncUnit) (k : BitVec 16) (s : State) : exec (Instr.prepare e k) s = prepareCommand e k s := by
  cases e <;> rfl

/-- No chunk is longer than CHUNK_MAX: a free ACTIVE encoder always generates (R211). -/
theorem prepareCommand_generates (hadm : Admits s (.enc e) .active) (k : BitVec 16) :
    prepareCommand e k s =
      .next ((encSamples e k.toNat s).2.respond .ok 0 (packSamples (encSamples e k.toNat s).1)) := by
  have hroom : k.toNat ≤ Params.plcphy.chunkMax := Nat.le_of_lt_succ k.isLt
  exact pluginCommand_done hadm.running (.inr hadm.free) (by simp [hadm.state])
    (by simp only [encPrepare_of_le hroom, CmdResult.succeed])

theorem statusWord_ok {n : Nat} (h : n < 2 ^ 16) : statusWord .ok 0 n = BitVec.ofNat 16 n ++ (0 : BitVec 16) := by
  rw [statusWord, rlenField, if_pos h, BitVec.append_assoc]
  rfl

/-- Settles O39: the accepted command, and the samples one by one. -/
theorem prepareGeneratesSamples : Obligations.PrepareGeneratesSamples := by
  refine ⟨fun e k s hadm => ?_, encSamples_add⟩
  obtain ⟨hlen, hplug, -⟩ := encSamples_frame e k.toNat s
  have hwords : (packSamples (encSamples e k.toNat s).1).length = (k.toNat + 1) / 2 := by
    rw [length_packSamples, hlen, sampleWords]
  refine ⟨_, (encSamples e k.toNat s).1, (exec_prepare e k s).trans (prepareCommand_generates hadm k), ?_, hlen, ?_,
    encSamples_le, hplug _, ?_⟩
  · rw [← encSamples_rsp e k.toNat s]
    rfl
  · have hk := k.isLt
    rw [State.respond_rsp, hwords, statusWord_ok (by omega)]
  · obtain ⟨hothers, hsystem, hports⟩ := onlyUnit_encSamples e k.toNat s
    exact ⟨hothers, hsystem, hports⟩

end Sys2Proof.Machine
end

section
/-! The filter on one chunk (40_filter.md R124 to R128): what demodulation, the difference equation and the capture
give, value by value, and the filter after a chunk. -/

namespace Sys2Proof.Machine

/-! Demodulation (R126). -/

section Demodulation

variable (mode : Demod) (fw : BitVec 32) (off : Sample)

@[simp] theorem demodChunk_length (phase : BitVec 32) (raw : List Sample) :
    (demodChunk mode fw off phase raw).1.length = raw.length := by
  induction raw generalizing phase with
  | nil => rfl
  | cons r rs ih => simp only [demodChunk, List.length_cons, ih]

/-- The phase `k + 1` samples on is the phase `k` samples after the next (R126). -/
theorem phase_step (phase : BitVec 32) (k : Nat) :
    phase + fw + BitVec.ofNat 32 k * fw = phase + BitVec.ofNat 32 (k + 1) * fw := by
  rw [BitVec.ofNat_add, BitVec.add_mul, BitVec.one_mul, BitVec.add_assoc, BitVec.add_comm fw]

/-- The phase advances by `fw` a sample, whatever the mode (R126). -/
theorem demodChunk_phase (phase : BitVec 32) (raw : List Sample) :
    (demodChunk mode fw off phase raw).2 = phase + BitVec.ofNat 32 raw.length * fw := by
  induction raw generalizing phase with
  | nil => simp [demodChunk]
  | cons r rs ih => simp only [demodChunk, ih, List.length_cons, phase_step]

/-- Sample `i` is demodulated at the phase `i` steps on (R126). -/
theorem demodChunk_getElem? (phase : BitVec 32) (raw : List Sample) (i : Nat) :
    (demodChunk mode fw off phase raw).1[i]? =
      raw[i]?.map (fun r => demodSample mode (phase + BitVec.ofNat 32 i * fw) off r) := by
  induction raw generalizing phase i with
  | nil => rfl
  | cons r rs ih =>
    cases i with
    | zero => simp [demodChunk]
    | succ i => simp only [demodChunk, List.getElem?_cons_succ, ih, phase_step]

theorem demodChunk_append (phase : BitVec 32) (raw raw' : List Sample) :
    (demodChunk mode fw off phase (raw ++ raw')).1 =
      (demodChunk mode fw off phase raw).1 ++
        (demodChunk mode fw off (phase + BitVec.ofNat 32 raw.length * fw) raw').1 := by
  induction raw generalizing phase with
  | nil => simp [demodChunk]
  | cons r rs ih => simp only [List.cons_append, demodChunk, ih, List.length_cons, phase_step]

end Demodulation

/-! The difference equation (R127). -/

section DifferenceEquation

variable {a b xb yb : List REAL} {n : Nat}

/-- A sum depends only on the values it takes, wherever they stand. -/
theorem tapSum_congr {coef sig sig' : List REAL} {n n' k₀ : Nat}
    (h : ∀ k, k₀ ≤ k → k < coef.length → sig.getD (n - k) 0 = sig'.getD (n' - k) 0) :
    tapSum coef sig n k₀ = tapSum coef sig' n' k₀ := by
  refine List.foldl_ext _ _ _ fun acc k hk => ?_
  obtain ⟨hlow, hhigh⟩ := List.mem_range'_1.1 hk
  rw [h k hlow (by omega)]

/-- An output depends only on the inputs up to the order back, and on the outputs before it. -/
theorem iirOutput_congr {xb' yb' : List REAL} {n' : Nat}
    (hx : ∀ k, k ≤ filterOrder a b → xb.getD (n - k) 0 = xb'.getD (n' - k) 0)
    (hy : ∀ k, 1 ≤ k → k ≤ filterOrder a b → yb.getD (n - k) 0 = yb'.getD (n' - k) 0) :
    iirOutput a b xb yb n = iirOutput a b xb' yb' n' := by
  have hin : tapSum b xb n 0 = tapSum b xb' n' 0 :=
    tapSum_congr fun k _ hk => hx k (by unfold filterOrder; omega)
  have hout : tapSum a yb n 1 = tapSum a yb' n' 1 :=
    tapSum_congr fun k hk₁ hk => hy k hk₁ (by unfold filterOrder; omega)
  simp only [iirOutput, hin, hout]

/-- Outputs from `n` on do not enter the output at `n`. -/
theorem iirOutput_append_outputs (later : List REAL) (horder : filterOrder a b ≤ n) (hlen : yb.length = n) :
    iirOutput a b xb (yb ++ later) n = iirOutput a b xb yb n :=
  iirOutput_congr (fun _ _ => rfl) fun k hk _ => List.getD_append _ _ _ _ (by omega)

/-- Inputs after `n` do not enter the output at `n`. -/
theorem iirOutput_append_inputs (later : List REAL) (hlen : n < xb.length) :
    iirOutput a b (xb ++ later) yb n = iirOutput a b xb yb n :=
  iirOutput_congr (fun k _ => List.getD_append _ _ _ _ (by omega)) fun _ _ _ => rfl

/-- Values further back than the order may be dropped. -/
theorem iirOutput_drop (earlier : List REAL) (horder : filterOrder a b ≤ n) :
    iirOutput a b xb (earlier ++ yb) (earlier.length + n) = iirOutput a b (xb.drop earlier.length) yb n := by
  refine iirOutput_congr (fun k hk => ?_) fun k _ hk => ?_
  · rw [List.getD_eq_getElem?_getD, List.getD_eq_getElem?_getD, List.getElem?_drop,
      show earlier.length + n - k = earlier.length + (n - k) by omega]
  · rw [List.getD_append_right _ _ _ _ (by omega), show earlier.length + n - k - earlier.length = n - k by omega]

@[simp] theorem iirRun_length (a b xb : List REAL) (count n : Nat) (yb : List REAL) :
    (iirRun a b xb count n yb).length = yb.length + count := by
  induction count generalizing n yb with
  | zero => rfl
  | succ count ih => rw [iirRun, ih, List.length_append, List.length_singleton]; omega

/-- The outputs before a run stay as they are. -/
theorem isPrefix_iirRun (a b xb : List REAL) (count n : Nat) (yb : List REAL) : yb <+: iirRun a b xb count n yb := by
  induction count generalizing n yb with
  | zero => exact List.prefix_rfl
  | succ count ih => exact (List.prefix_append ..).trans (ih ..)

/-- Every output of a run meets the difference equation over the whole run (R127). -/
theorem iirRun_getElem? {count i : Nat} (horder : filterOrder a b ≤ n) (hlen : yb.length = n) (hi : i < count) :
    (iirRun a b xb count n yb)[n + i]? = some (iirOutput a b xb (iirRun a b xb count n yb) (n + i)) := by
  induction count generalizing n yb i with
  | zero => exact absurd hi (Nat.not_lt_zero i)
  | succ count ih =>
    rw [iirRun]
    cases i with
    | zero =>
      obtain ⟨later, hrun⟩ := isPrefix_iirRun a b xb count (n + 1) (yb ++ [iirOutput a b xb yb n])
      rw [← hrun, Nat.add_zero, List.append_assoc, iirOutput_append_outputs _ horder hlen, ← hlen,
        List.getElem?_append_right (Nat.le_refl _), Nat.sub_self]
      rfl
    | succ i =>
      have hnext : (yb ++ [iirOutput a b xb yb n]).length = n + 1 := by rw [List.length_append, hlen]; rfl
      rw [show n + (i + 1) = n + 1 + i by omega]
      exact ih (Nat.le_succ_of_le horder) hnext (Nat.lt_of_succ_lt_succ hi)

theorem iirRun_add (a b xb : List REAL) (count count' n : Nat) (yb : List REAL) :
    iirRun a b xb (count + count') n yb = iirRun a b xb count' (n + count) (iirRun a b xb count n yb) := by
  induction count generalizing n yb with
  | zero => rw [Nat.zero_add]; rfl
  | succ count ih => rw [Nat.succ_add, iirRun, ih, iirRun, Nat.succ_add_eq_add_succ]

/-- Inputs past the end of a run do not enter it. -/
theorem iirRun_append_inputs (later : List REAL) {count : Nat} (hlen : n + count ≤ xb.length) :
    iirRun a b (xb ++ later) count n yb = iirRun a b xb count n yb := by
  induction count generalizing n yb with
  | zero => rfl
  | succ count ih => rw [iirRun, iirOutput_append_inputs later (by omega), ih (by omega), iirRun]

/-- A run does not look further back than the order. -/
theorem iirRun_drop (earlier : List REAL) {count : Nat} (horder : filterOrder a b ≤ n) :
    iirRun a b xb count (earlier.length + n) (earlier ++ yb) =
      earlier ++ iirRun a b (xb.drop earlier.length) count n yb := by
  induction count generalizing n yb with
  | zero => rfl
  | succ count ih =>
    rw [iirRun, iirOutput_drop earlier horder, List.append_assoc, Nat.add_assoc, ih (by omega), iirRun]

end DifferenceEquation

/-! The capture (R128). -/

/-- A filter whose capture countdown has begun at `cap_len` stores the next outputs in order, until it is exhausted. -/
theorem Flt.captureAll_eq {f : Flt} (hcap : f.capRem ≤ f.capLen) (vs : List REAL) :
    vs.foldl Flt.capture f =
      { f with cap := Memory.writeFrom f.cap (f.capLen - f.capRem) (vs.take f.capRem),
               capRem := f.capRem - vs.length } := by
  induction vs generalizing f with
  | nil => rw [List.take_nil]; rfl
  | cons v vs ih =>
    rw [List.foldl_cons]
    cases hrem : f.capRem with
    | zero =>
      have hkept : f.capture v = f := by simp [Flt.capture, hrem]
      rw [hkept, ih hcap, hrem, List.take_zero, List.take_zero, Nat.zero_sub, Nat.zero_sub]
    | succ rem =>
      have hstored : f.capture v = { f with cap := Memory.write f.cap (f.capLen - f.capRem) v, capRem := rem } := by
        simp [Flt.capture, hrem]
      rw [hstored, ih (by dsimp only; omega), hrem, List.take_succ_cons, Memory.writeFrom, List.length_cons,
        Nat.succ_sub_succ]
      rw [show f.capLen - rem = f.capLen - (rem + 1) + 1 by omega]

/-! The filter after a chunk (R124). -/

/-- A filter as `flt_create` leaves it and the operations keep it: histories of `P + N` values for its order, and a
capture countdown that has begun at `cap_len` (R121, R123). -/
structure Flt.Consistent (f : Flt) : Prop where
  order : f.p = filterOrder f.a f.b
  inputs : f.xb.length = f.p + f.n.toNat
  outputs : f.yb.length = f.p + f.n.toNat
  countdown : f.capRem ≤ f.capLen

/-- The last `P` demodulated samples and outputs, which the next chunk begins with (R125). -/
def Flt.pastInputs (f : Flt) : List REAL := (f.xb.drop f.n.toNat).take f.p

def Flt.pastOutputs (f : Flt) : List REAL := (f.yb.drop f.n.toNat).take f.p

/-- The history and then the demodulated samples of `raw`, which need not be one chunk (R125, R126). -/
def Flt.inputsOn (f : Flt) (off : Sample) (raw : List Sample) : List REAL :=
  f.pastInputs ++ (demodChunk f.demod f.fw off f.phase raw).1

/-- The history and then the outputs for the samples of `raw`, which need not be one chunk (R125, R127). -/
def Flt.outputsOn (f : Flt) (off : Sample) (raw : List Sample) : List REAL :=
  iirRun f.a f.b (f.inputsOn off raw) raw.length f.p f.pastOutputs

/-- The outputs for the samples of `raw`, which need not be one chunk (R127). -/
def Flt.newOutputs (f : Flt) (off : Sample) (raw : List Sample) : List REAL := (f.outputsOn off raw).drop f.p

/-- The filter after the chunk `raw` (R124). -/
def Flt.afterChunk (f : Flt) (off : Sample) (raw : List Sample) : Flt :=
  { f with xb := f.inputsOn off raw, yb := f.outputsOn off raw, valid := true,
           phase := f.phase + BitVec.ofNat 32 raw.length * f.fw,
           cap := Memory.writeFrom f.cap (f.capLen - f.capRem) ((f.newOutputs off raw).take f.capRem),
           capRem := f.capRem - raw.length }

theorem shiftHistory_take {p n : Nat} {buf : List REAL} (h : buf.length = p + n) :
    (shiftHistory p n buf).take p = (buf.drop n).take p := by
  have hlen : ((buf.drop n).take p).length = p := by rw [List.length_take, List.length_drop]; omega
  rw [shiftHistory, List.take_append_of_le_length hlen.ge, List.take_take, Nat.min_self]

section Chunk

variable {f : Flt} (off : Sample) (raw : List Sample)

theorem Flt.Consistent.length_pastInputs (hf : f.Consistent) : f.pastInputs.length = f.p := by
  rw [Flt.pastInputs, List.length_take, List.length_drop, hf.inputs]; omega

theorem Flt.Consistent.length_pastOutputs (hf : f.Consistent) : f.pastOutputs.length = f.p := by
  rw [Flt.pastOutputs, List.length_take, List.length_drop, hf.outputs]; omega

theorem Flt.Consistent.length_inputsOn (hf : f.Consistent) : (f.inputsOn off raw).length = f.p + raw.length := by
  rw [Flt.inputsOn, List.length_append, hf.length_pastInputs, demodChunk_length]

theorem Flt.Consistent.length_outputsOn (hf : f.Consistent) : (f.outputsOn off raw).length = f.p + raw.length := by
  rw [Flt.outputsOn, iirRun_length, hf.length_pastOutputs]

theorem Flt.Consistent.order_le (hf : f.Consistent) : filterOrder f.a f.b ≤ f.p := hf.order.ge

/-- The difference equation holds at every output (R127). -/
theorem Flt.Consistent.outputsOn_getElem? (hf : f.Consistent) {i : Nat} (hi : i < raw.length) :
    (f.outputsOn off raw)[f.p + i]? =
      some (iirOutput f.a f.b (f.inputsOn off raw) (f.outputsOn off raw) (f.p + i)) :=
  iirRun_getElem? hf.order_le hf.length_pastOutputs hi

theorem Flt.Consistent.inputsOn_past (hf : f.Consistent) {k : Nat} (hk : k < f.p) :
    (f.inputsOn off raw)[k]? = f.xb[f.n.toNat + k]? := by
  rw [Flt.inputsOn, List.getElem?_append_left (by rwa [hf.length_pastInputs]), Flt.pastInputs,
    List.getElem?_take_of_lt hk, List.getElem?_drop]

theorem Flt.Consistent.outputsOn_past (hf : f.Consistent) {k : Nat} (hk : k < f.p) :
    (f.outputsOn off raw)[k]? = f.yb[f.n.toNat + k]? := by
  obtain ⟨new, hrun⟩ : f.pastOutputs <+: f.outputsOn off raw := isPrefix_iirRun ..
  rw [← hrun, List.getElem?_append_left (by rwa [hf.length_pastOutputs]), Flt.pastOutputs, List.getElem?_take_of_lt hk,
    List.getElem?_drop]

theorem Flt.Consistent.inputsOn_new (hf : f.Consistent) (i : Nat) :
    (f.inputsOn off raw)[f.p + i]? =
      raw[i]?.map (fun r => demodSample f.demod (f.phase + BitVec.ofNat 32 i * f.fw) off r) := by
  rw [Flt.inputsOn, List.getElem?_append_right (by rw [hf.length_pastInputs]; omega), hf.length_pastInputs,
    Nat.add_sub_cancel_left, demodChunk_getElem?]

theorem Flt.Consistent.length_newOutputs (hf : f.Consistent) :
    (f.newOutputs off raw).length = raw.length := by
  rw [Flt.newOutputs, List.length_drop, hf.length_outputsOn, Nat.add_sub_cancel_left]

/-- A chunk of N samples leads to the filter after it (R124). -/
theorem Flt.Consistent.processChunk_eq (hf : f.Consistent) (hraw : raw.length = f.n.toNat) :
    f.processChunk raw off = .ok (f.afterChunk off raw) := by
  have hin : (shiftHistory f.p f.n.toNat f.xb).take f.p = f.pastInputs := shiftHistory_take hf.inputs
  have hout : (shiftHistory f.p f.n.toNat f.yb).take f.p = f.pastOutputs := shiftHistory_take hf.outputs
  have hrun : iirRun f.a f.b (f.pastInputs ++ (demodChunk f.demod f.fw off f.phase raw).1) raw.length f.p f.pastOutputs
      = f.outputsOn off raw := rfl
  have hnew : (f.outputsOn off raw).drop f.p = f.newOutputs off raw := rfl
  rw [Flt.processChunk, if_pos hraw]
  dsimp only
  rw [hin, hout, ← hraw, hrun, hnew, Flt.captureAll_eq hf.countdown, hf.length_newOutputs, demodChunk_phase]
  rfl

end Chunk

/-- Settles O46: the filter after a chunk, read value by value. -/
theorem filterEvaluatesTheDifferenceEquation : Obligations.FilterEvaluatesTheDifferenceEquation := by
  intro f g raw off hchunk horder _ hxb hyb hcap
  have hf : f.Consistent := ⟨horder, hxb, hyb, hcap⟩
  have hraw := (Flt.processChunk_ok hchunk).1
  rw [hf.processChunk_eq off raw hraw] at hchunk
  obtain rfl := Except.ok.inj hchunk
  refine ⟨?_, ?_, fun k hk => ⟨hf.inputsOn_past off raw hk, hf.outputsOn_past off raw hk⟩, fun i _ => ?_, fun i hi => ?_,
    ?_, rfl, ?_, fun i hi => ?_, fun k hk => Memory.read_writeFrom_below _ _ hk⟩
  · exact hraw ▸ hf.length_inputsOn off raw
  · exact hraw ▸ hf.length_outputsOn off raw
  · refine (hf.inputsOn_new off raw i).trans (congrArg (Option.map · raw[i]?) (funext fun r => ?_))
    simp only [demodSample, Params.plcphy_contained]
    rfl
  · exact hf.outputsOn_getElem? off raw (hraw ▸ hi)
  · exact congrArg (fun k => f.phase + BitVec.ofNat 32 k * f.fw) hraw
  · exact congrArg (f.capRem - ·) hraw
  · have hstored : i < ((f.newOutputs off raw).take f.capRem).length := by
      rw [List.length_take, hf.length_newOutputs, hraw]; exact hi
    refine (Memory.read_writeFrom_at _ _ _ _ hstored).trans ?_
    rw [List.getElem?_take_of_lt (by omega), Flt.newOutputs, List.getElem?_drop]
    rfl

end Sys2Proof.Machine
end

section
/-! Chunk independence (40_filter.md R129): the outputs for consecutive chunks are those for all their samples at once,
and those of a new filter do not depend on its chunk size. -/

namespace Sys2Proof.Machine

/-! Consecutive chunks. -/

section Chunks

variable {f : Flt} {off : Sample} {raw : List Sample}

theorem Flt.Consistent.afterChunk (hf : f.Consistent) (hraw : raw.length = f.n.toNat) :
    (f.afterChunk off raw).Consistent where
  order := hf.order
  inputs := hraw ▸ hf.length_inputsOn off raw
  outputs := hraw ▸ hf.length_outputsOn off raw
  countdown := (Nat.sub_le ..).trans hf.countdown

/-- The last `P` values of the chunk before are the history of the next (R125). -/
theorem Flt.Consistent.pastInputs_afterChunk (hf : f.Consistent) (hraw : raw.length = f.n.toNat) :
    (f.afterChunk off raw).pastInputs = (f.inputsOn off raw).drop f.n.toNat :=
  List.take_of_length_le (by rw [List.length_drop]; exact Nat.sub_le_of_le_add (hraw ▸ hf.length_inputsOn off raw).le)

theorem Flt.Consistent.pastOutputs_afterChunk (hf : f.Consistent) (hraw : raw.length = f.n.toNat) :
    (f.afterChunk off raw).pastOutputs = (f.outputsOn off raw).drop f.n.toNat :=
  List.take_of_length_le (by rw [List.length_drop]; exact Nat.sub_le_of_le_add (hraw ▸ hf.length_outputsOn off raw).le)

/-- The current chunk of outputs is what the chunk gave (20_memory.md R76). -/
theorem Flt.Consistent.output_afterChunk (hf : f.Consistent) (hraw : raw.length = f.n.toNat) :
    (f.afterChunk off raw).output = f.newOutputs off raw :=
  List.take_of_length_le (hraw ▸ (hf.length_newOutputs off raw).le)

/-- The next chunk's inputs continue those of the chunk before. -/
theorem Flt.Consistent.inputsOn_append (hf : f.Consistent) (hraw : raw.length = f.n.toNat) (raw' : List Sample) :
    ∃ later, f.inputsOn off (raw ++ raw') = f.inputsOn off raw ++ later ∧
      (f.afterChunk off raw).inputsOn off raw' = (f.inputsOn off raw ++ later).drop f.n.toNat := by
  refine ⟨_, by rw [Flt.inputsOn, demodChunk_append, ← List.append_assoc, ← Flt.inputsOn], ?_⟩
  rw [List.drop_append_of_le_length (by rw [hf.length_inputsOn]; omega), ← hf.pastInputs_afterChunk hraw]
  rfl

/-- The next chunk's outputs continue those of the chunk before: a run may be cut where a chunk ends. -/
theorem Flt.Consistent.outputsOn_append (hf : f.Consistent) (hraw : raw.length = f.n.toNat) (raw' : List Sample) :
    f.outputsOn off (raw ++ raw') =
      (f.outputsOn off raw).take f.n.toNat ++ (f.afterChunk off raw).outputsOn off raw' := by
  obtain ⟨later, hall, hnext⟩ := hf.inputsOn_append (off := off) hraw raw'
  have hfirst : iirRun f.a f.b (f.inputsOn off raw ++ later) raw.length f.p f.pastOutputs = f.outputsOn off raw :=
    iirRun_append_inputs later (hf.length_inputsOn off raw).ge
  have hcut : ((f.outputsOn off raw).take f.n.toNat).length = f.n.toNat := by
    rw [List.length_take, hf.length_outputsOn]; omega
  calc f.outputsOn off (raw ++ raw')
      = iirRun f.a f.b (f.inputsOn off raw ++ later) raw'.length (f.p + raw.length) (f.outputsOn off raw) := by
        rw [Flt.outputsOn, hall, List.length_append, iirRun_add, hfirst]
    _ = iirRun f.a f.b (f.inputsOn off raw ++ later) raw'.length (((f.outputsOn off raw).take f.n.toNat).length + f.p)
          ((f.outputsOn off raw).take f.n.toNat ++ (f.outputsOn off raw).drop f.n.toNat) := by
        rw [hcut, List.take_append_drop, hraw, Nat.add_comm]
    _ = _ := by
        rw [iirRun_drop _ hf.order_le, hcut, ← hnext, ← hf.pastOutputs_afterChunk hraw]
        rfl

theorem Flt.Consistent.newOutputs_append (hf : f.Consistent) (hraw : raw.length = f.n.toNat) (raw' : List Sample) :
    f.newOutputs off (raw ++ raw') = f.newOutputs off raw ++ (f.afterChunk off raw).newOutputs off raw' := by
  have hg := hf.afterChunk (off := off) hraw
  obtain ⟨later, hlater⟩ : (f.afterChunk off raw).pastOutputs <+: (f.afterChunk off raw).outputsOn off raw' :=
    isPrefix_iirRun ..
  have hnew : (f.afterChunk off raw).newOutputs off raw' = later := by
    rw [Flt.newOutputs, ← hlater, ← hg.length_pastOutputs, List.drop_left]
  rw [hnew, Flt.newOutputs, hf.outputsOn_append hraw, ← hlater, hf.pastOutputs_afterChunk hraw, ← List.append_assoc,
    List.take_append_drop, List.drop_append_of_le_length (by rw [hf.length_outputsOn]; omega), ← Flt.newOutputs]

theorem Flt.Consistent.newOutputs_nil (hf : f.Consistent) : f.newOutputs off [] = [] :=
  List.drop_eq_nil_of_le (hf.length_outputsOn off []).le

/-- Chunks of N samples, one after the other, give the outputs for all their samples at once. -/
theorem Flt.Consistent.processChunks_eq (hf : f.Consistent) {chunks : List (List Sample)}
    (hlen : ∀ c ∈ chunks, c.length = f.n.toNat) :
    ∃ g, Flt.processChunks off chunks f = .ok (g, f.newOutputs off chunks.flatten) := by
  induction chunks generalizing f with
  | nil => exact ⟨f, by rw [List.flatten_nil, hf.newOutputs_nil]; rfl⟩
  | cons c cs ih =>
    have hc := hlen c List.mem_cons_self
    obtain ⟨g, hg⟩ := ih (hf.afterChunk (off := off) hc) fun c' hc' => hlen c' (List.mem_cons_of_mem c hc')
    refine ⟨g, ?_⟩
    simp only [Flt.processChunks, hf.processChunk_eq off c hc, hg, hf.output_afterChunk hc, List.flatten_cons,
      hf.newOutputs_append hc]

end Chunks

/-! A new filter. -/

section Fresh

variable {n : BitVec 16} {a b : List REAL}

/-- The filter `flt_create` makes (R121). -/
def Flt.fresh (n : BitVec 16) (a b : List REAL) : Flt :=
  { allocated := true, n := n, a := a, b := b, p := filterOrder a b,
    xb := List.replicate (filterOrder a b + n.toNat) (Num.ofInt 0),
    yb := List.replicate (filterOrder a b + n.toNat) (Num.ofInt 0), valid := false, demod := .none, fw := 0, phase := 0,
    capLen := 0, capRem := 0, cap := [] }

theorem fltCreate_fresh (h : filterOrder a b ≤ n.toNat) : fltCreate n a b = .ok (Flt.fresh n a b) := if_pos h

theorem fltCreate_tooShort (h : n.toNat < filterOrder a b) : fltCreate n a b = .error .filterOrder :=
  if_neg (Nat.not_le.2 h)

theorem fltCreate_ok_fresh {f : Flt} (h : fltCreate n a b = .ok f) : f = Flt.fresh n a b := by
  rw [fltCreate_fresh (fltCreate_ok h).1] at h
  exact (Except.ok.inj h).symm

theorem Flt.fresh_consistent (n : BitVec 16) (a b : List REAL) : (Flt.fresh n a b).Consistent where
  order := rfl
  inputs := List.length_replicate
  outputs := List.length_replicate
  countdown := Nat.le_refl 0

theorem Flt.Consistent.setDemod {f : Flt} (hf : f.Consistent) (mode : Demod) (fw : BitVec 32) :
    (f.setDemod mode fw).Consistent :=
  ⟨hf.order, hf.inputs, hf.outputs, hf.countdown⟩

/-- A new filter begins with a history of zeros, whatever its chunk size (R121). -/
theorem Flt.newOutputs_fresh (l m : BitVec 16) (a b : List REAL) (mode : Demod) (fw : BitVec 32) (off : Sample)
    (raw : List Sample) :
    ((Flt.fresh l a b).setDemod mode fw).newOutputs off raw = ((Flt.fresh m a b).setDemod mode fw).newOutputs off raw := by
  have hpast : ∀ n : BitVec 16, ((List.replicate (filterOrder a b + n.toNat) (Num.ofInt 0)).drop n.toNat).take
      (filterOrder a b) = List.replicate (filterOrder a b) (Num.ofInt 0) := fun n => by
    rw [List.drop_replicate, List.take_replicate, Nat.add_sub_cancel, Nat.min_self]
  simp only [Flt.newOutputs, Flt.outputsOn, Flt.inputsOn, Flt.pastInputs, Flt.pastOutputs, Flt.setDemod, Flt.fresh, hpast]

end Fresh

/-- Settles O47: both filters give the outputs a new filter gives for all the samples at once. -/
theorem filteringIsChunkIndependent : Obligations.FilteringIsChunkIndependent := by
  intro l m a b mode fw off chunks f₁ f₂ g₁ _ _ _ hf₁ hf₂ hlen hone
  obtain rfl := fltCreate_ok_fresh hf₁
  obtain rfl := fltCreate_ok_fresh hf₂
  have hl := (Flt.fresh_consistent l a b).setDemod mode fw
  have hraw := (Flt.processChunk_ok hone).1
  rw [hl.processChunk_eq off _ hraw] at hone
  obtain rfl := Except.ok.inj hone
  obtain ⟨g₂, hmany⟩ := ((Flt.fresh_consistent m a b).setDemod mode fw).processChunks_eq (off := off) hlen
  exact ⟨g₂, _, hmany, by rw [hl.output_afterChunk hraw, Flt.newOutputs_fresh m l]⟩

end Sys2Proof.Machine
end

section
/-! The commands of the filter (40_filter.md R121 to R124, R130 to R132). -/

namespace Sys2Proof.Machine

/-! Answers. -/

variable {s : State}

/-- The answer OK without response words (R96). -/
theorem respond_ok (s : State) : s.respond .ok 0 [] = { s with rsp := [0x00000000] } := by
  have hstatus : statusWord .ok 0 0 = 0x00000000 := by decide
  rw [State.respond, List.length_nil, hstatus]

/-- A command that succeeds without response words answers OK. -/
theorem blockCommand_succeed {t : State} (hrun : s.halted = false) :
    blockCommand s (.succeed t []) = .next { t with rsp := [0x00000000] } :=
  (blockCommand_done hrun rfl).trans (congrArg _ (respond_ok t))

theorem blockCommand_fatal {c : FatalCode} (hrun : s.halted = false) :
    blockCommand s (.fatal c) =
      .next { s with halted := true, fatalCode := c.code, rsp := [statusWord .halted c.code 0] } := by
  simp [blockCommand, hrun, failFatal_eq]

theorem statusWord_chunkLen : statusWord .halted FatalCode.chunkLen.code 0 = 0x0000020B := by decide

theorem statusWord_filterOrder : statusWord .halted FatalCode.filterOrder.code 0 = 0x0000010B := by decide

/-! Making a filter (R121). -/

/-- The order is one less than the larger number of coefficients, whichever REALs they are. -/
theorem filterOrder_map (a b : List Real32) :
    filterOrder (a.map Num.ofBits) (b.map Num.ofBits) = max a.length b.length - 1 := by
  rw [filterOrder, List.length_map, List.length_map]

/-- Where the operands pass R121's checks, the answer is that of `flt_create`. -/
theorem execFltCreate_checked {n : BitVec 16} {a b : List Real32} (hrun : s.halted = false)
    (hfree : s.flt.allocated = false) (hn : n ≠ 0) (ha : 1 ≤ a.length ∧ a.length ≤ 16)
    (hb : 1 ≤ b.length ∧ b.length ≤ 16) (ha₀ : (a.getD 0 0).toNat % 2 ^ 31 ≠ 0) :
    (∀ f, fltCreate n (a.map Num.ofBits) (b.map Num.ofBits) = .ok f →
      execFltCreate n a b s = .next { s with flt := f, rsp := [0x00000000] }) ∧
    (∀ c, fltCreate n (a.map Num.ofBits) (b.map Num.ofBits) = .error c →
      execFltCreate n a b s =
        .next { s with halted := true, fatalCode := c.code, rsp := [statusWord .halted c.code 0] }) := by
  have hsize : ¬ (n.toNat = 0 ∨ n.toNat > Params.plcphy.chunkMax) := by
    have hpos : n.toNat ≠ 0 := fun h => hn (BitVec.eq_of_toNat_eq h)
    have hmax : n.toNat ≤ Params.plcphy.chunkMax := Nat.le_of_lt_succ n.isLt
    omega
  have hcount : ¬ (a.length = 0 ∨ b.length = 0 ∨ a.length > Params.plcphy.orderMax + 1 ∨
      b.length > Params.plcphy.orderMax + 1) := by
    rw [Params.plcphy_orderMax]; omega
  have hzero : ¬ Params.plcphy.num.isZero (Params.plcphy.num.ofBits (a.getD 0 0)) = true := by
    simpa [Num.isZero, Num.ofBits, Binary32.isZero, Binary32.magBits] using ha₀
  rw [execFltCreate, if_neg (by simp [hfree]), if_neg hsize, if_neg hcount, if_neg hzero, Params.plcphy_ofBits]
  refine ⟨fun f hf => ?_, fun c hc => ?_⟩
  · rw [hf]; exact blockCommand_succeed hrun
  · rw [hc]; exact blockCommand_fatal hrun

/-- Settles O44: the operands pass R121's checks, and the order decides. -/
theorem fltCreateMakesAFilter : Obligations.FltCreateMakesAFilter := by
  intro n a b s hrun hfree hn ha₁ ha₂ hb₁ hb₂ ha₀ order
  have horder : filterOrder (a.map Num.ofBits) (b.map Num.ofBits) = order := filterOrder_map a b
  obtain ⟨hdone, hfatal⟩ := execFltCreate_checked hrun hfree hn ⟨ha₁, ha₂⟩ ⟨hb₁, hb₂⟩ ha₀
  refine ⟨fun hle => ?_, fun hlt => ?_⟩
  · refine (hdone _ (fltCreate_fresh (horder ▸ hle))).trans ?_
    rw [Flt.fresh, horder]
  · refine (hfatal _ (fltCreate_tooShort (horder ▸ hlt))).trans ?_
    rw [statusWord_filterOrder]
    rfl

/-! An existing filter. -/

theorem execFltSetDemod_done (hrun : s.halted = false) (hex : s.flt.allocated = true) {mode : BitVec 16} {d : Demod}
    (hmode : demod? mode.toNat = some d) (fw : Word) :
    execFltSetDemod mode fw s = .next { s with flt := s.flt.setDemod d fw, rsp := [0x00000000] } := by
  rw [execFltSetDemod, if_neg (by simp [hex]), hmode]
  exact blockCommand_succeed hrun

theorem execFltSetCapture_done (hrun : s.halted = false) (hex : s.flt.allocated = true) {count : Word}
    (hcount : count.toNat ≤ Params.plcphy.capMax) :
    execFltSetCapture count s = .next { s with flt := s.flt.setCapture count.toNat, rsp := [0x00000000] } := by
  rw [execFltSetCapture, if_neg (by simp [hex]), if_neg (Nat.not_lt.2 hcount)]
  exact blockCommand_succeed hrun

theorem execFltRelease_done (hrun : s.halted = false) (hex : s.flt.allocated = true) :
    execFltRelease s = .next { s with flt := s.flt.destroy, rsp := [0x00000000] } := by
  rw [execFltRelease, if_neg (by simp [hex])]
  exact blockCommand_succeed hrun

theorem execFltProcessChunk_done (hrun : s.halted = false) (hex : s.flt.allocated = true) {offset : Sample}
    {raw : List Sample} {f : Flt} (hchunk : s.flt.processChunk raw offset = .ok f) :
    execFltProcessChunk offset raw s = .next { s with flt := f, rsp := [0x00000000] } := by
  rw [execFltProcessChunk, if_neg (by simp [hex]), hchunk]
  exact blockCommand_succeed hrun

/-- A chunk of another length than N is an error of the host (R124). -/
theorem Flt.processChunk_wrongLength {f : Flt} {raw : List Sample} (offset : Sample) (h : raw.length ≠ f.n.toNat) :
    f.processChunk raw offset = .error .chunkLen := if_neg h

theorem execFltProcessChunk_fatal (hrun : s.halted = false) (hex : s.flt.allocated = true) {offset : Sample}
    {raw : List Sample} (hlen : raw.length ≠ s.flt.n.toNat) :
    execFltProcessChunk offset raw s = .next { s with halted := true, fatalCode := 2, rsp := [0x0000020B] } := by
  rw [execFltProcessChunk, if_neg (by simp [hex]), Flt.processChunk_wrongLength offset hlen]
  refine (blockCommand_fatal hrun).trans ?_
  rw [statusWord_chunkLen]
  rfl

theorem execFltReadOutput_done (hrun : s.halted = false) (hex : s.flt.allocated = true) (hvalid : s.flt.valid = true) :
    execFltReadOutput s =
      .next (s.respond .ok 0 (countWord s.flt.n.toNat :: s.flt.output.map Num.toBits)) := by
  rw [execFltReadOutput, if_neg (by simp [hex]), if_neg (by simp [hvalid])]
  exact blockCommand_done hrun rfl

theorem execFltReadCapture_done (hrun : s.halted = false) (hex : s.flt.allocated = true) (m : BitVec 16) :
    execFltReadCapture m s = .next (s.respond .ok 0 (s.flt.captureWords m)) := by
  rw [execFltReadCapture, if_neg (by simp [hex])]
  exact blockCommand_done hrun rfl

/-! The capture (R131). -/

/-- The instruction answers a read of at most `m` values captured by `f`, and changes nothing else (R131). -/
def AnswersCapture (f : Flt) (m : BitVec 16) (i : Instr) (s : State) : Prop :=
  ∃ vals, exec i s = .next { s with rsp := statusWord .ok 0 (vals.length + 1) :: BitVec.ofNat 32 vals.length :: vals } ∧
    vals.length = min m.toNat (f.capLen - f.capRem) ∧
    ∀ k v, k < vals.length → Memory.read f.cap k = some v → vals[k]? = some (Num.toBits v)

@[simp] theorem Flt.captured_length (f : Flt) (c : Nat) : (f.captured c).length = c := by
  rw [Flt.captured, List.length_map, List.length_range]

theorem Flt.captured_getElem? {f : Flt} {c k : Nat} {v : REAL} (hk : k < c) (hread : Memory.read f.cap k = some v) :
    (f.captured c)[k]? = some v := by
  rw [Flt.captured, List.getElem?_map, List.getElem?_range hk, Option.map_some, hread, Option.getD_some]

theorem answersCapture {f : Flt} {m : BitVec 16} {i : Instr}
    (h : exec i s = .next (s.respond .ok 0 (f.captureWords m))) : AnswersCapture f m i s := by
  have hlen : ((f.captured (min m.toNat (f.capLen - f.capRem))).map Num.toBits).length =
      min m.toNat (f.capLen - f.capRem) := by
    rw [List.length_map, f.captured_length]
  refine ⟨_, h.trans ?_, hlen, fun k v hk hread => ?_⟩
  · rw [hlen, State.respond, Flt.captureWords, List.length_cons, Params.plcphy_toBits, hlen]
    rfl
  · rw [List.getElem?_map, Flt.captured_getElem? (hlen ▸ hk) hread, Option.map_some]

theorem readCaptureCommand_done {d : DecUnit} {f : Flt} (hrun : s.halted = false)
    (hlc : (s.plug (.dec d)).lc = .active) (hflt : s.decFlt d = some f) (hex : f.allocated = true) (m : BitVec 16) :
    readCaptureCommand d m s = .next (s.respond .ok 0 (f.captureWords m)) :=
  pluginCommand_done hrun (.inl rfl) (decide_eq_true hlc) (by simp [hflt, hex, CmdResult.succeed])

/-- Settles O37: each of the four filters answers the words of one read. -/
theorem captureReadsGiveTheFirstValues : Obligations.CaptureReadsGiveTheFirstValues :=
  ⟨fun m _ hrun hex => answersCapture (execFltReadCapture_done hrun hex m),
    fun m _ hrun hlc hex => answersCapture (readCaptureCommand_done (d := .ook) hrun hlc rfl hex m),
    fun m _ hrun hlc hex => answersCapture (readCaptureCommand_done (d := .pwm) hrun hlc rfl hex m),
    fun m _ hrun hlc hex => answersCapture (readCaptureCommand_done (d := .morse) hrun hlc rfl hex m)⟩

/-! The commands together. -/

/-- The mode operand of `FLT_SET_DEMOD` names its mode (R122). -/
theorem demod?_eq_some {mode : Nat} {d : Demod} (h : mode = match d with | .none => 0 | .abs => 1 | .cos => 2) :
    demod? mode = some d := by
  cases d <;> subst h <;> rfl

theorem Flt.processChunk_valid {f g : Flt} {raw : List Sample} {offset : Sample}
    (h : f.processChunk raw offset = .ok g) : g.valid = true := by
  obtain ⟨-, xb, yb, phase, cap, rem, rfl, -⟩ := Flt.processChunk_ok h
  rfl

/-- Settles O45: each command on a filter that exists. -/
theorem fltCommandsOnAnExistingFilter : Obligations.FltCommandsOnAnExistingFilter := by
  refine ⟨fun s hrun hex => ⟨fun mode fw d hmode => ?_, fun count hcount => ?_, ?_⟩,
    fun offset raw s hrun hex hlen => ?_, fun s hrun hex hvalid => ?_⟩
  · exact execFltSetDemod_done hrun hex (demod?_eq_some hmode) fw
  · exact execFltSetCapture_done hrun hex hcount
  · exact execFltRelease_done hrun hex
  · obtain ⟨f, hchunk⟩ := Flt.processChunk_succeeds offset hlen
    obtain ⟨halloc, hn⟩ := Flt.processChunk_kept hchunk
    exact ⟨f, hchunk, Flt.processChunk_valid hchunk, halloc.trans hex, hn, execFltProcessChunk_done hrun hex hchunk⟩
  · refine (execFltReadOutput_done hrun hex hvalid).trans ?_
    rw [State.respond, List.length_cons, List.length_map, Nat.add_comm]
    rfl

end Sys2Proof.Machine
end

section
/-! The sessions of the decoders (42_decoders.md R174 to R176, R182, R189, R190, R194, R197, R202 to R207), and the release
of a unit (41_lifecycle_settings.md R148). -/

namespace Sys2Proof.Machine

/-! What each command runs. -/

theorem exec_start (d : DecUnit) (n : BitVec 16) (s : State) : exec (Instr.start d n) s = initializeCommand d n s := by
  cases d <;> rfl

theorem exec_parse (d : DecUnit) (raw : List Sample) (s : State) : exec (Instr.parse d raw) s = parseCommand d raw s := by
  cases d <;> rfl

theorem exec_terminate (d : DecUnit) (s : State) : exec (Instr.terminate d) s = terminateCommand d s := by
  cases d <;> rfl

theorem exec_release (u : PluginUnit) (s : State) : exec (Instr.release u) s = releaseCommand u s := by
  rcases u with (_ | _ | _ | _) | (_ | _ | _ | _ | _) <;> rfl

variable {s t : State} {u : PluginUnit} {d : DecUnit} {lc : Lc} {legal : Lc → Bool}

/-- A command that is admitted and succeeds without response words answers OK. -/
theorem pluginCommand_succeed {exempt : Bool} (hadm : Admits s u lc) (hlegal : legal lc = true) :
    pluginCommand u exempt legal s (.succeed t []) = .next { t with rsp := [0x00000000] } :=
  (pluginCommand_done hadm.running (.inr hadm.free) (hadm.state ▸ hlegal) rfl).trans (congrArg _ (respond_ok t))

/-- A command that is admitted and ends in a fatal error halts PLCPHY. -/
theorem pluginCommand_fatal {exempt : Bool} {c : FatalCode} (hadm : Admits s u lc) (hlegal : legal lc = true) :
    pluginCommand u exempt legal s (.fatal c) =
      .next { s with halted := true, fatalCode := c.code, rsp := [statusWord .halted c.code 0] } := by
  simp [pluginCommand, hadm.running, hadm.free, hadm.state, hlegal, failFatal_eq]

/-! `PARSE_NEXT_SAMPLES`. -/

/-- A decoder gives its filter's error back (R124). -/
theorem decParse_wrongLength {raw : List Sample} {c : DecCore} (hcore : s.decCore d = some c)
    (hlen : raw.length ≠ c.flt.n.toNat) : decParse d raw s = .error .chunkLen := by
  have hchunk := Flt.processChunk_wrongLength c.der.off hlen
  cases d with
  | raw => cases hcore
  | ook => cases hcore; simp only [decParse, DecOok.parse, hchunk]
  | pwm => cases hcore; simp only [decParse, DecPwm.parse, hchunk]
  | morse => cases hcore; simp only [decParse, DecMorse.parse, hchunk]

/-- Settles O32: the filter of unit 0, and the filters of the decoders. -/
theorem wrongChunkLengthHalts : Obligations.WrongChunkLengthHalts := by
  refine ⟨fun offset raw s hrun hex hlen => execFltProcessChunk_fatal hrun hex hlen,
    fun d raw s c hadm hcore hlen => ?_⟩
  rw [exec_parse, parseCommand, decParse_wrongLength hcore hlen]
  refine (pluginCommand_fatal hadm rfl).trans ?_
  rw [statusWord_chunkLen]
  rfl

/-- The algorithm of each decoder, run over the outputs `y` from the working registers of `s`, gives the working registers
of `t` and the bytes `out` (R182, R190, R197). -/
structure DecodesChunk (d : DecUnit) (der : DecDerived) (y : List REAL) (s t : State) (out : List Byte) : Prop where
  ook : d = .ook → (t.decOok.ook, out) =
    OokRegs.parse der.thr der.spsNum.toNat y (3 * y.length + 6) 0 s.decOok.ook []
  pwm : d = .pwm → (t.decPwm.pwm, out) = PwmRegs.parse der.thr der.spsNum.toNat y s.decPwm.pwm
  morse : d = .morse → (t.decMorse.morse, out) = MorseRegs.parse der.thr y s.decMorse.morse

section Algorithms

variable {raw : List Sample} {f : Flt} {out : List Byte}

theorem DecOok.parse_chunk {o : DecOok} {r : OokRegs} (hchunk : o.core.flt.processChunk raw o.core.der.off = .ok f)
    (hrun : OokRegs.parse o.core.der.thr o.core.der.spsNum.toNat f.output (3 * f.output.length + 6) 0 o.ook [] = (r, out)) :
    o.parse raw = .ok ({ core := { o.core with flt := f, dout := o.core.dout ++ out }, ook := r }, out.length) := by
  simp only [DecOok.parse, hchunk, hrun]

theorem DecPwm.parse_chunk {p : DecPwm} {r : PwmRegs} (hchunk : p.core.flt.processChunk raw p.core.der.off = .ok f)
    (hrun : PwmRegs.parse p.core.der.thr p.core.der.spsNum.toNat f.output p.pwm = (r, out)) :
    p.parse raw = .ok ({ core := { p.core with flt := f, dout := p.core.dout ++ out }, pwm := r }, out.length) := by
  simp only [DecPwm.parse, hchunk, hrun]

theorem DecMorse.parse_chunk {m : DecMorse} {r : MorseRegs} (hchunk : m.core.flt.processChunk raw m.core.der.off = .ok f)
    (hrun : MorseRegs.parse m.core.der.thr f.output m.morse = (r, out)) :
    m.parse raw = .ok ({ core := { m.core with flt := f, dout := m.core.dout ++ out }, morse := r }, out.length) := by
  simp only [DecMorse.parse, hchunk, hrun]

end Algorithms

/-- A processed chunk: the unit's filter, stream and working registers, and the number of bytes appended (R207). -/
theorem decParse_chunk {raw : List Sample} {c : DecCore} {f : Flt} (hcore : s.decCore d = some c)
    (hchunk : c.flt.processChunk raw c.der.off = .ok f) :
    ∃ t out, decParse d raw s = .ok (t, out.length) ∧ t.decCore d = some { c with flt := f, dout := c.dout ++ out } ∧
      OnlyUnit (.dec d) s t ∧ DecodesChunk d c.der f.output s t out := by
  cases d with
  | raw => cases hcore
  | ook =>
    cases hcore
    obtain ⟨⟨r, out⟩, hrun⟩ : ∃ x, OokRegs.parse s.decOok.core.der.thr s.decOok.core.der.spsNum.toNat f.output
      (3 * f.output.length + 6) 0 s.decOok.ook [] = x := ⟨_, rfl⟩
    exact ⟨_, out, by rw [decParse, DecOok.parse_chunk hchunk hrun], rfl, onlyUnit_decOok s _, fun _ => hrun.symm, nofun,
      nofun⟩
  | pwm =>
    cases hcore
    obtain ⟨⟨r, out⟩, hrun⟩ : ∃ x, PwmRegs.parse s.decPwm.core.der.thr s.decPwm.core.der.spsNum.toNat f.output
      s.decPwm.pwm = x := ⟨_, rfl⟩
    exact ⟨_, out, by rw [decParse, DecPwm.parse_chunk hchunk hrun], rfl, onlyUnit_decPwm s _, nofun, fun _ => hrun.symm,
      nofun⟩
  | morse =>
    cases hcore
    obtain ⟨⟨r, out⟩, hrun⟩ : ∃ x, MorseRegs.parse s.decMorse.core.der.thr f.output s.decMorse.morse = x := ⟨_, rfl⟩
    exact ⟨_, out, by rw [decParse, DecMorse.parse_chunk hchunk hrun], rfl, onlyUnit_decMorse s _, nofun, nofun,
      fun _ => hrun.symm⟩

/-- An admitted chunk answers the number of bytes appended (R182). -/
theorem parseCommand_done {raw : List Sample} {k : Nat} (hadm : Admits s (.dec d) .active)
    (hparse : decParse d raw s = .ok (t, k)) :
    parseCommand d raw s = .next { t with rsp := [0x00010000, BitVec.ofNat 32 k] } := by
  have hstatus : statusWord .ok 0 1 = 0x00010000 := by decide
  rw [parseCommand, hparse]
  refine (pluginCommand_done hadm.running (.inr hadm.free) (by rw [hadm.state]; rfl) rfl).trans ?_
  rw [State.respond, List.length_singleton, hstatus]
  rfl

/-- Settles O31: the chunk through the filter, the decoder's algorithm, and the answer. -/
theorem parseConsumesAChunk : Obligations.ParseConsumesAChunk := by
  refine ⟨fun d raw s c hadm hcore hlen => ?_, fun raw s hadm => parseCommand_done (raw := raw) hadm rfl⟩
  obtain ⟨f, hchunk⟩ := Flt.processChunk_succeeds c.der.off hlen
  obtain ⟨t, out, hparse, hunit, ⟨hothers, hsystem, hports⟩, hook, hpwm, hmorse⟩ := decParse_chunk hcore hchunk
  refine ⟨_, f, out, (exec_parse d raw s).trans (parseCommand_done hadm hparse), rfl, hchunk, ?_,
    ⟨hothers, hsystem, hports⟩, hook, hpwm, hmorse⟩
  rw [← hunit]
  cases d <;> rfl

/-! `TERMINATE`. -/

theorem terminateBody_eq {f : Flt} (hflt : s.decFlt d = some f) :
    terminateBody d s = (s.setDecFlt d f.destroy).setPlug (.dec d) { s.plug (.dec d) with lc := .idle } := by
  simp only [terminateBody, State.destroyDecFlt, hflt]

theorem terminateCommand_done (hadm : Admits s (.dec d) .active) :
    terminateCommand d s = .next { terminateBody d s with rsp := [0x00000000] } :=
  pluginCommand_succeed hadm rfl

/-- Settles O35: the filter destroyed where there is one, and IDLE. -/
theorem terminateEndsADecoderSession : Obligations.TerminateEndsADecoderSession := by
  refine ⟨fun d s f hadm hflt => ?_, fun s hadm => terminateCommand_done hadm⟩
  rw [exec_terminate, terminateCommand_done hadm, terminateBody_eq hflt]
  rfl

/-! `INITIALIZE`. -/

/-- Every preset has order 0 or 1 (R172). -/
theorem filterOrder_presetAt (i : Nat) : filterOrder (presetAt i).a (presetAt i).b ≤ 1 := by
  match i with
  | 0 | 1 | 2 => decide
  | k + 3 => exact Nat.zero_le 1

/-- A decoder's filter is made from its derived registers, for every chunk size but 0 (R175). -/
theorem DecCore.start_eq (c : DecCore) {n : BitVec 16} (hn : n ≠ 0) :
    c.start n =
      .ok { c with flt := Flt.ofDerived c.der n, dout := [], plug := { c.plug with lc := .active } } := by
  have hpos : n.toNat ≠ 0 := fun h => hn (BitVec.eq_of_toNat_eq h)
  have horder := filterOrder_presetAt c.der.preset
  rw [DecCore.start, fltCreate_fresh (by omega)]
  rfl

theorem chunkSizeLegal_of_ne_zero {n : BitVec 16} (hn : n ≠ 0) : chunkSizeLegal n = true := by
  have hpos : n.toNat ≠ 0 := fun h => hn (BitVec.eq_of_toNat_eq h)
  have hmax : n.toNat ≤ Params.plcphy.chunkMax := Nat.le_of_lt_succ n.isLt
  rw [chunkSizeLegal, decide_eq_true hpos, decide_eq_true hmax, Bool.and_self]

/-- What `INITIALIZE` leaves of the decoder's own registers: `dout` empty, the filter of R175, the derived registers, and
working registers that are 0 (R174, R175, R189, R194, R203). -/
structure Started (d : DecUnit) (n : BitVec 16) (s t : State) : Prop where
  dout : t.dout d = []
  core : ∀ c, s.decCore d = some c → t.decFlt d = some (Flt.ofDerived c.der n) ∧
    ∃ c', t.decCore d = some c' ∧ c'.der = c.der
  ook : d = .ook → t.decOok.ook = s.decOok.ook.start
  pwm : d = .pwm → t.decPwm.pwm = s.decPwm.pwm.start
  morse : d = .morse → t.decMorse.morse = s.decMorse.morse.start

theorem initializeBody_eq (d : DecUnit) {n : BitVec 16} (hn : n ≠ 0) (s : State) :
    ∃ t, initializeBody d n s = .succeed t [] ∧ Started d n s t := by
  rw [initializeBody.eq_def, chunkSizeLegal_of_ne_zero hn]
  cases d with
  | raw => exact ⟨{ s with decRaw := _ }, rfl, rfl, fun c hc => (nomatch hc), nofun, nofun, nofun⟩
  | ook =>
    rw [s.decOok.core.start_eq hn]
    exact ⟨{ s with decOok := _ }, rfl, rfl, fun c hc => Option.some.inj hc ▸ ⟨rfl, _, rfl, rfl⟩, fun _ => rfl, nofun,
      nofun⟩
  | pwm =>
    rw [s.decPwm.core.start_eq hn]
    exact ⟨{ s with decPwm := _ }, rfl, rfl, fun c hc => Option.some.inj hc ▸ ⟨rfl, _, rfl, rfl⟩, nofun, fun _ => rfl,
      nofun⟩
  | morse =>
    rw [s.decMorse.core.start_eq hn]
    exact ⟨{ s with decMorse := _ }, rfl, rfl, fun c hc => Option.some.inj hc ▸ ⟨rfl, _, rfl, rfl⟩, nofun, nofun,
      fun _ => rfl⟩

/-- Settles O30: the accepted command, and the decoder as R175 makes it. -/
theorem initializeStartsADecoder : Obligations.InitializeStartsADecoder := by
  intro d n s hadm hready hn
  obtain ⟨t, hbody, hdout, hcore, hook, hpwm, hmorse⟩ := initializeBody_eq d hn s
  obtain ⟨⟨hothers, hsystem, hports⟩, hplug, -⟩ := initializeBody_done hbody
  have hexec : initializeCommand d n s = .next { t with rsp := [0x00000000] } := by
    rw [initializeCommand, hready, Bool.not_true, if_neg Bool.false_ne_true, hbody]
    exact pluginCommand_succeed hadm rfl
  exact ⟨_, (exec_start d n s).trans hexec, rfl, ⟨hothers, hsystem, hports⟩, hplug, hdout, hcore, hook, hpwm, hmorse⟩

/-! `RELEASE`. -/

@[simp] theorem regs_unbindScheduler (s : State) (b : Bound) (v : PluginUnit) : (s.unbindScheduler b).regs v = s.regs v := by
  cases b <;> rfl

@[simp] theorem ports_unbindScheduler (s : State) (b : Bound) : (s.unbindScheduler b).ports = s.ports := by
  cases b <;> rfl

/-- The registers of a unit after its plugin registers are written depend on its registers before only. -/
theorem regs_setPlug_congr {p : Plug} (h : t.regs u = s.regs u) : (t.setPlug u p).regs u = (s.setPlug u p).regs u := by
  rcases u with (_ | _ | _ | _) | (_ | _ | _ | _ | _) <;> injection h with h <;> simp only [State.setPlug, State.regs, h]

theorem releaseBody_regs_of_ne {v : PluginUnit} (hv : v ≠ u) : (releaseBody u s).regs v = s.regs v := by
  rw [releaseBody, (onlyUnit_setPlug _ u _).others v hv, regs_unbindScheduler, (onlyUnit_destroyUnitFlt u s).others v hv]

theorem releaseBody_ports : (releaseBody u s).ports = s.ports := by
  rw [releaseBody, (onlyUnit_setPlug _ u _).ports, ports_unbindScheduler, (onlyUnit_destroyUnitFlt u s).ports]

theorem system_unbindScheduler (s : State) (b : Bound) :
    (s.unbindScheduler b).system =
      { s.system with txs := if b = .tx then { s.txs with enc := none } else s.txs,
                      rxs := if b = .rx then { s.rxs with dec := none } else s.rxs } := by
  cases b <;> rfl

theorem releaseBody_system :
    (releaseBody u s).system =
      { s.system with txs := if (s.plug u).bound = .tx then { s.txs with enc := none } else s.txs,
                      rxs := if (s.plug u).bound = .rx then { s.rxs with dec := none } else s.rxs } := by
  have hdestroy := onlyUnit_destroyUnitFlt u s
  rw [releaseBody, (onlyUnit_setPlug _ u _).system, system_unbindScheduler, hdestroy.system, hdestroy.txs, hdestroy.rxs]

@[simp] theorem decFlt_unbindScheduler (s : State) (b : Bound) (d : DecUnit) : (s.unbindScheduler b).decFlt d = s.decFlt d := by
  cases b <;> rfl

@[simp] theorem dout_unbindScheduler (s : State) (b : Bound) (d : DecUnit) : (s.unbindScheduler b).dout d = s.dout d := by
  cases b <;> rfl

@[simp] theorem dout_setDecFlt (s : State) (d e : DecUnit) (f : Flt) : (s.setDecFlt d f).dout e = s.dout e := by
  cases d <;> cases e <;> rfl

theorem decFlt_setDecFlt_same {f g : Flt} (h : s.decFlt d = some f) : (s.setDecFlt d g).decFlt d = some g := by
  cases d with
  | raw => cases h
  | ook | pwm | morse => rfl

theorem setDecFlt_decFlt {f : Flt} (h : s.decFlt d = some f) : s.setDecFlt d f = s := by
  cases d <;> cases h <;> rfl

/-- The filter after `RELEASE`: destroyed if it existed (R148). -/
def Flt.released (f : Flt) : Flt := if f.allocated then { f with allocated := false, valid := false } else f

/-- A unit with a filter writes it, and a unit without one has nothing to write. -/
theorem destroyUnitFlt_of_decFlt {f : Flt} (h : s.decFlt d = some f) :
    s.destroyUnitFlt (.dec d) = s.setDecFlt d f.released := by
  simp only [State.destroyUnitFlt, h, Flt.released]
  split
  · rfl
  · exact (setDecFlt_decFlt h).symm

theorem destroyUnitFlt_of_none (h : s.decFlt d = none) : s.destroyUnitFlt (.dec d) = s := by
  simp only [State.destroyUnitFlt, h]

theorem releaseBody_decFlt_same : (releaseBody (.dec d) s).decFlt d = (s.decFlt d).map Flt.released := by
  rw [releaseBody, State.decFlt_setPlug, decFlt_unbindScheduler]
  cases h : s.decFlt d with
  | none => rw [destroyUnitFlt_of_none h, h, Option.map_none]
  | some f => rw [destroyUnitFlt_of_decFlt h, decFlt_setDecFlt_same h, Option.map_some]

theorem destroyUnitFlt_dout (s : State) (u : PluginUnit) (e : DecUnit) : (s.destroyUnitFlt u).dout e = s.dout e := by
  cases u with
  | enc => rfl
  | dec d =>
    cases h : s.decFlt d with
    | none => rw [destroyUnitFlt_of_none h]
    | some f => rw [destroyUnitFlt_of_decFlt h, dout_setDecFlt]

theorem releaseBody_dout (e : DecUnit) : (releaseBody u s).dout e = s.dout e := by
  rw [releaseBody, State.dout_setPlug, dout_unbindScheduler, destroyUnitFlt_dout]

theorem releaseBody_regs_same :
    (releaseBody u s).regs u = ((s.destroyUnitFlt u).setPlug u (s.plug u).released).regs u :=
  regs_setPlug_congr (regs_unbindScheduler ..)

theorem releaseCommand_done (hadm : Admits s u .idle ∨ Admits s u .config ∨ Admits s u .active) :
    releaseCommand u s = .next ((releaseBody u s).respond .ok 0 []) := by
  rcases hadm with hadm | hadm | hadm <;>
    exact pluginCommand_done hadm.running (.inr hadm.free) (by rw [hadm.state]; rfl) rfl

/-- Settles O28: the accepted command, and what `RELEASE` leaves of the unit, the schedulers and the rest. -/
theorem releaseMakesAUnitAbsent : Obligations.ReleaseMakesAUnitAbsent := by
  intro u s hadm
  refine ⟨_, (exec_release u s).trans (releaseCommand_done hadm), congrArg State.rsp (respond_ok _), releaseBody_plug, ?_,
    ?_, fun d => releaseBody_dout d, fun v hv => releaseBody_regs_of_ne hv, releaseBody_ports, releaseBody_system⟩
  · rintro d f rfl hflt
    rw [State.decFlt_respond, releaseBody_decFlt_same, hflt, Option.map_some, Flt.released]
  · refine releaseBody_regs_same.trans ?_
    rw [State.plug_respond, releaseBody_plug]
    cases u with
    | enc e => rfl
    | dec d =>
      simp only [State.decFlt_respond, releaseBody_decFlt_same]
      cases hflt : s.decFlt d with
      | none => rw [destroyUnitFlt_of_none hflt]; rfl
      | some f => rw [destroyUnitFlt_of_decFlt hflt]; rfl

end Sys2Proof.Machine
end

section
/-! The checks every command on a plugin unit passes first (41_lifecycle_settings.md R141, R142): busy, the lifecycle table,
and, for `INITIALIZE` and `RESET`, ready. -/

namespace Sys2Proof.Machine

variable {s : State} {u : PluginUnit} {op : PluginOp} {exempt : Bool} {legal : Lc → Bool} {body : CmdResult}

/-! What each command runs. -/

theorem exec_create (u : PluginUnit) (s : State) : exec (Instr.create u) s = createCommand u s := by
  rcases u with (_ | _ | _ | _) | (_ | _ | _ | _ | _) <;> rfl

theorem exec_beginSettings (u : PluginUnit) (s : State) : exec (Instr.beginSettings u) s = beginSettingsCommand u s := by
  rcases u with (_ | _ | _ | _) | (_ | _ | _ | _ | _) <;> rfl

theorem exec_endSettings (u : PluginUnit) (s : State) : exec (Instr.endSettings u) s = endSettingsCommand u s := by
  rcases u with (_ | _ | _ | _) | (_ | _ | _ | _ | _) <;> rfl

theorem exec_getStatus (u : PluginUnit) (s : State) : exec (Instr.getStatus u) s = getStatusCommand u s := by
  rcases u with (_ | _ | _ | _) | (_ | _ | _ | _ | _) <;> rfl

theorem exec_reset (e : EncUnit) (s : State) : exec (Instr.reset e) s = resetCommand e s := by
  cases e <;> rfl

/-! The refusals, in the order of the checks. -/

theorem pluginCommand_busy (hrun : s.halted = false) (hbusy : s.busy u = true) :
    pluginCommand u false legal s body = .next (s.refusePlugin u .busy 0) := by
  simp [pluginCommand, hrun, hbusy]

theorem pluginCommand_badState (hrun : s.halted = false) (hfree : s.busy u = false ∨ exempt = true)
    (hlegal : legal (s.plug u).lc = false) :
    pluginCommand u exempt legal s body = .next (s.refusePlugin u .badState (s.plug u).lc.code) := by
  rcases hfree with hfree | hfree <;> simp [pluginCommand, hrun, hfree, hlegal]

theorem pluginCommand_refuse {st : Status} {detail : BitVec 8} (hrun : s.halted = false) (hfree : s.busy u = false)
    (hlegal : legal (s.plug u).lc = true) :
    pluginCommand u exempt legal s (.refuse st detail) = .next (s.refusePlugin u st detail) := by
  simp [pluginCommand, hrun, hfree, hlegal]

/-- The outcome of a command that is `op` on unit `u`: the checks of R142, with the exemption and the table of R141 for
`op`, before the command's own rule. -/
def Admitted (op : PluginOp) (u : PluginUnit) (s : State) (o : Host.Outcome State Fault Refusal) : Prop :=
  ∃ legal body, o = pluginCommand u op.whileBusy legal s body ∧ ∀ lc, legal lc = decide (lc ∈ op.states u)

section Admission

variable (u : PluginUnit) (d : DecUnit) (e : EncUnit) (s : State)

theorem createCommand_admitted : Admitted .create u s (createCommand u s) :=
  ⟨_, _, rfl, fun lc => by cases lc <;> rfl⟩

theorem acceptedSettingsCommand_admitted : Admitted .accepted u s (acceptedSettingsCommand u s) :=
  ⟨_, _, rfl, fun lc => by cases lc <;> rfl⟩

/-- An encoder may open a bracket in ACTIVE, a decoder may not (R141). -/
theorem beginSettingsCommand_admitted : Admitted .beginSet u s (beginSettingsCommand u s) :=
  ⟨_, _, rfl, fun lc => by cases u <;> cases lc <;> rfl⟩

theorem setSettingCommand_admitted (id : BitVec 16) (v : SettingArg) :
    Admitted .setSetting u s (setSettingCommand u id v s) :=
  ⟨_, _, rfl, fun lc => by cases lc <;> rfl⟩

theorem endSettingsCommand_admitted : Admitted .endSet u s (endSettingsCommand u s) :=
  ⟨_, _, rfl, fun lc => by cases lc <;> rfl⟩

theorem releaseCommand_admitted : Admitted .release u s (releaseCommand u s) :=
  ⟨_, _, rfl, fun lc => by cases lc <;> rfl⟩

theorem getStatusCommand_admitted : Admitted .getStatus u s (getStatusCommand u s) :=
  ⟨_, _, rfl, fun lc => by cases lc <;> rfl⟩

theorem initializeCommand_admitted (n : BitVec 16) : Admitted .init (.dec d) s (initializeCommand d n s) :=
  ⟨_, _, rfl, fun lc => by cases lc <;> rfl⟩

theorem parseCommand_admitted (raw : List Sample) : Admitted .parse (.dec d) s (parseCommand d raw s) :=
  ⟨_, _, rfl, fun lc => by cases lc <;> rfl⟩

theorem terminateCommand_admitted : Admitted .terminate (.dec d) s (terminateCommand d s) :=
  ⟨_, _, rfl, fun lc => by cases lc <;> rfl⟩

theorem readDecodedCommand_admitted (m : BitVec 16) : Admitted .readDecoded (.dec d) s (readDecodedCommand d m s) :=
  ⟨_, _, rfl, fun lc => by cases lc <;> rfl⟩

theorem readCaptureCommand_admitted (m : BitVec 16) : Admitted .readCapture (.dec d) s (readCaptureCommand d m s) :=
  ⟨_, _, rfl, fun lc => by cases lc <;> rfl⟩

theorem resetCommand_admitted : Admitted .reset (.enc e) s (resetCommand e s) :=
  ⟨_, _, rfl, fun lc => by cases lc <;> rfl⟩

theorem prepareCommand_admitted (k : BitVec 16) : Admitted .prepare (.enc e) s (prepareCommand e k s) :=
  ⟨_, _, rfl, fun lc => by cases lc <;> rfl⟩

theorem execPbLoad_admitted (format channels bits : BitVec 16) (data : List Byte) :
    Admitted .pbLoad (.enc .wav) s (execPbLoad format channels bits data s) :=
  ⟨_, _, rfl, fun lc => by cases lc <;> rfl⟩

end Admission

/-- Every command on a plugin unit passes the checks of R142 with its row of the table of R141. -/
theorem exec_admitted {i : Instr} (hview : i.view = .plugin op u) (s : State) : Admitted op u s (exec i s) := by
  cases i with
  | createDecOok | createDecPwm | createDecMorse | createDecRaw | createEncWave | createEncWav | createEncOok
  | createEncPwm | createEncMorse => cases hview; exact createCommand_admitted ..
  | getAcceptedSettingsDecOok | getAcceptedSettingsDecPwm | getAcceptedSettingsDecMorse | getAcceptedSettingsDecRaw
  | getAcceptedSettingsEncWave | getAcceptedSettingsEncWav | getAcceptedSettingsEncOok | getAcceptedSettingsEncPwm
  | getAcceptedSettingsEncMorse => cases hview; exact acceptedSettingsCommand_admitted ..
  | beginSettingsDecOok | beginSettingsDecPwm | beginSettingsDecMorse | beginSettingsDecRaw | beginSettingsEncWave
  | beginSettingsEncWav | beginSettingsEncOok | beginSettingsEncPwm | beginSettingsEncMorse =>
    cases hview; exact beginSettingsCommand_admitted ..
  | setSettingDecOok id v | setSettingDecPwm id v | setSettingDecMorse id v | setSettingDecRaw id v
  | setSettingEncWave id v | setSettingEncWav id v | setSettingEncOok id v | setSettingEncPwm id v
  | setSettingEncMorse id v => cases hview; exact setSettingCommand_admitted _ s id v
  | endSettingsDecOok | endSettingsDecPwm | endSettingsDecMorse | endSettingsDecRaw | endSettingsEncWave
  | endSettingsEncWav | endSettingsEncOok | endSettingsEncPwm | endSettingsEncMorse =>
    cases hview; exact endSettingsCommand_admitted ..
  | releaseDecOok | releaseDecPwm | releaseDecMorse | releaseDecRaw | releaseEncWave | releaseEncWav | releaseEncOok
  | releaseEncPwm | releaseEncMorse => cases hview; exact releaseCommand_admitted ..
  | getStatusDecOok | getStatusDecPwm | getStatusDecMorse | getStatusDecRaw | getStatusEncWave | getStatusEncWav
  | getStatusEncOok | getStatusEncPwm | getStatusEncMorse => cases hview; exact getStatusCommand_admitted ..
  | initializeDecOok | initializeDecPwm | initializeDecMorse | initializeDecRaw =>
    cases hview; exact initializeCommand_admitted ..
  | parseNextSamplesDecOok raw | parseNextSamplesDecPwm raw | parseNextSamplesDecMorse raw
  | parseNextSamplesDecRaw raw => cases hview; exact parseCommand_admitted _ s raw
  | terminateDecOok | terminateDecPwm | terminateDecMorse | terminateDecRaw =>
    cases hview; exact terminateCommand_admitted ..
  | readDecodedDecOok | readDecodedDecPwm | readDecodedDecMorse | readDecodedDecRaw =>
    cases hview; exact readDecodedCommand_admitted ..
  | readCaptureDecOok | readCaptureDecPwm | readCaptureDecMorse => cases hview; exact readCaptureCommand_admitted ..
  | resetEncWave | resetEncWav | resetEncOok | resetEncPwm | resetEncMorse => cases hview; exact resetCommand_admitted ..
  | prepareNextSamplesEncWave | prepareNextSamplesEncWav | prepareNextSamplesEncOok | prepareNextSamplesEncPwm
  | prepareNextSamplesEncMorse => cases hview; exact prepareCommand_admitted ..
  | pbLoad => cases hview; exact execPbLoad_admitted ..
  | _ => cases hview

/-- Settles O9: the check for a busy unit comes before the table and the command's own rule. -/
theorem busyUnitsRefuse : Obligations.BusyUnitsRefuse := by
  intro i op u s hview hrun hbusy hop
  obtain ⟨legal, body, hexec, -⟩ := exec_admitted hview s
  rw [hexec, hop, pluginCommand_busy hrun hbusy]
  rfl

theorem initializeCommand_notReady {d : DecUnit} (n : BitVec 16) (hadm : Admits s (.dec d) .idle)
    (hready : (s.plug (.dec d)).ready = false) :
    initializeCommand d n s = .next (s.refusePlugin (.dec d) .notReady 0) := by
  rw [initializeCommand, hready]
  exact pluginCommand_refuse hadm.running hadm.free (decide_eq_true hadm.state)

theorem resetCommand_notReady {e : EncUnit} (hadm : Admits s (.enc e) .idle ∨ Admits s (.enc e) .active)
    (hready : (s.plug (.enc e)).ready = false) : resetCommand e s = .next (s.refusePlugin (.enc e) .notReady 0) := by
  rw [resetCommand, hready]
  rcases hadm with hadm | hadm
  · exact pluginCommand_refuse hadm.running hadm.free (decide_eq_true (.inl hadm.state))
  · exact pluginCommand_refuse hadm.running hadm.free (decide_eq_true (.inr hadm.state))

/-- Settles O10: the check of the table (R141), and the check of `ready` in the rules of `INITIALIZE` and `RESET`. -/
theorem lifecycleTableRefuses : Obligations.LifecycleTableRefuses := by
  refine ⟨fun i op u s hview hrun hfree hlc => ?_, fun d n s hadm hready => ?_, fun e s hadm hready => ?_⟩
  · obtain ⟨legal, body, hexec, hlegal⟩ := exec_admitted hview s
    rw [hexec, pluginCommand_badState hrun hfree ((hlegal _).trans (decide_eq_false hlc))]
    rfl
  · rw [exec_start, initializeCommand_notReady n hadm hready]
    rfl
  · rw [exec_reset, resetCommand_notReady hadm hready]
    rfl

end Sys2Proof.Machine
end

section
/-! `CREATE`, `BEGIN_SETTINGS` and `GET_STATUS` (41_lifecycle_settings.md R143, R146, R149). -/

namespace Sys2Proof.Machine

theorem createCommand_done {s : State} {u : PluginUnit} (hadm : Admits s u .absent) :
    createCommand u s = .next { createBody u s with rsp := [0x00000000] } :=
  pluginCommand_succeed hadm rfl

/-- What `CREATE` leaves in the registers of a decoder but the plugin registers (R143). -/
theorem createBody_decoder (d : DecUnit) (s : State) :
    (createBody (.dec d) s).dout d = [] ∧
      (∀ c, (createBody (.dec d) s).decCore d = some c → c.der = DecDerived.reset) ∧
      ∀ f, (createBody (.dec d) s).decFlt d = some f → f.allocated = false ∧ f.valid = false := by
  cases d with
  | raw => exact ⟨rfl, by rintro c ⟨⟩, by rintro f ⟨⟩⟩
  | ook | pwm | morse => exact ⟨rfl, by rintro c ⟨⟩; rfl, by rintro f ⟨⟩; exact ⟨rfl, rfl⟩⟩

/-- Settles O19: the accepted command, and the unit as `CREATE` makes it. -/
theorem createMakesAFreshUnit : Obligations.CreateMakesAFreshUnit := by
  intro u s hadm
  obtain ⟨hothers, hsystem, hports⟩ := onlyUnit_createBody u s
  refine ⟨_, (exec_create u s).trans (createCommand_done hadm), rfl, ⟨hothers, hsystem, hports⟩, plug_createBody u s, ?_,
    ?_⟩
  · rintro d rfl
    have hdec := createBody_decoder d s
    generalize createBody (.dec d) s = t at hdec ⊢
    cases d <;> exact hdec
  · refine ⟨?_, ?_, ?_, ?_, ?_, ?_, ?_, ?_⟩ <;> (rintro rfl; rfl)

/-- Settles O21: the accepted command, in the states the table admits. -/
theorem beginSettingsOpensABracket : Obligations.BeginSettingsOpensABracket := by
  intro u s hadm
  rw [exec_beginSettings]
  rcases hadm with hadm | ⟨hadm, e, rfl⟩
  · exact pluginCommand_succeed hadm (by cases u <;> rfl)
  · exact pluginCommand_succeed hadm rfl

/-- Each field of the word of `GET_STATUS` at its place (R95, R149). -/
theorem Plug.statusBits_fields (p : Plug) :
    p.statusBits.extractLsb' 0 2 = p.lc.code.setWidth 2 ∧ p.statusBits.getLsbD 2 = p.ready ∧
      p.statusBits.getLsbD 3 = p.txnError ∧ p.statusBits.extractLsb' 4 2 = p.bound.code.setWidth 2 ∧
      p.statusBits.extractLsb' 6 2 = 0 ∧ p.statusBits.extractLsb' 8 8 = p.errStatus ∧
      p.statusBits.extractLsb' 16 8 = p.errMsg ∧ p.statusBits.extractLsb' 24 8 = 0 := by
  unfold Plug.statusBits
  refine ⟨?_, ?_, ?_, ?_, ?_, ?_, ?_, ?_⟩
  · exact BitVec.extractLsb'_append_eq_right
  · iterate 2 rw [BitVec.getLsbD_append]
    cases p.ready <;> rfl
  · iterate 3 rw [BitVec.getLsbD_append]
    cases p.txnError <;> rfl
  · iterate 3 rw [BitVec.extractLsb'_append_eq_of_le (by decide)]
    exact BitVec.extractLsb'_append_eq_right
  · iterate 4 rw [BitVec.extractLsb'_append_eq_of_le (by decide)]
    exact BitVec.extractLsb'_append_eq_right
  · iterate 5 rw [BitVec.extractLsb'_append_eq_of_le (by decide)]
    exact BitVec.extractLsb'_append_eq_right
  · iterate 6 rw [BitVec.extractLsb'_append_eq_of_le (by decide)]
    exact BitVec.extractLsb'_append_eq_right
  · iterate 6 rw [BitVec.extractLsb'_append_eq_of_le (by decide)]
    exact BitVec.extractLsb'_append_eq_left

theorem getStatusCommand_answers {u : PluginUnit} {s : State} (hrun : s.halted = false) :
    getStatusCommand u s = .next { s with rsp := [0x00010000, (s.plug u).statusBits] } := by
  have hstatus : statusWord .ok 0 1 = 0x00010000 := by decide
  refine (pluginCommand_done hrun (.inl rfl) rfl rfl).trans ?_
  rw [State.respond, List.length_singleton, hstatus]

/-- Settles O29: the decoded command, and its word field by field. -/
theorem getStatusShowsTheUnit : Obligations.GetStatusShowsTheUnit := by
  refine ⟨fun d => ?_, fun e => ?_, fun u s hrun => ?_⟩
  · cases d <;> exact decode_plain rfl []
  · cases e <;> exact decode_plain rfl []
  · obtain ⟨hlc, hready, htxn, hbound, hzero, hstatus, hmsg, hhigh⟩ := (s.plug u).statusBits_fields
    refine ⟨(s.plug u).statusBits, (exec_getStatus u s).trans (getStatusCommand_answers hrun), hlc, hready, htxn, hbound,
      hzero, hstatus, hmsg, hhigh, fun hlc hready htxn hbound hstatus hmsg => ?_⟩
    rw [Plug.statusBits, hlc, hready, htxn, hbound, hstatus, hmsg]
    decide

end Sys2Proof.Machine
end

section
/-! `END_SETTINGS` (41_lifecycle_settings.md R147): what it leaves and answers by what the unit's rule derives. -/

namespace Sys2Proof.Machine

variable {s t : State} {u : PluginUnit} {m : Msg}

/-- What the rule of unit `u` derives at `END_SETTINGS`, from the settings of `s` and with the unit back in IDLE: the state
with the derived registers, and the message of a configuration that is not viable. -/
def derivedAtEnd (u : PluginUnit) (s : State) : State × Option Msg := deriveUnit u (s.setPlug u (s.plug u).endBracket)

theorem plug_derivedAtEnd (u : PluginUnit) (s : State) : (derivedAtEnd u s).1.plug u = (s.plug u).endBracket := by
  rw [derivedAtEnd, plug_deriveUnit, State.plug_setPlug]

theorem onlyUnit_derivedAtEnd (u : PluginUnit) (s : State) : OnlyUnit u s (derivedAtEnd u s).1 :=
  (onlyUnit_setPlug s u _).trans (onlyUnit_deriveUnit u _)

theorem endSettingsBody_rejected (htxn : (s.plug u).txnError = true) :
    endSettingsBody u s = .done (s.setPlug u ((s.plug u).misconfigured 1)) .config 1 [] := by
  simp only [endSettingsBody, htxn, if_true, State.plug_setPlug, State.setPlug_setPlug]
  rfl

theorem endSettingsBody_misconfigured (htxn : (s.plug u).txnError = false) (hm : (derivedAtEnd u s).2 = some m) :
    endSettingsBody u s =
      .done ((derivedAtEnd u s).1.setPlug u ((s.plug u).misconfigured m.code)) .config m.code [] := by
  have hplug := plug_derivedAtEnd u s
  unfold derivedAtEnd at hm hplug ⊢
  simp only [endSettingsBody, htxn, Bool.false_eq_true, if_false, hm, hplug]
  rfl

theorem endSettingsBody_configured (htxn : (s.plug u).txnError = false) (hd : derivedAtEnd u s = (t, none)) :
    endSettingsBody u s = .succeed (t.setPlug u (s.plug u).configured) [] := by
  have hplug : t.plug u = (s.plug u).endBracket := by rw [← plug_derivedAtEnd, hd]
  unfold derivedAtEnd at hd
  simp only [endSettingsBody, htxn, Bool.false_eq_true, if_false, hd, hplug]
  rfl

/-- The answer of a configuration error: `E_CONFIG` with the message and no response words (R96, R147). -/
theorem respond_config (s : State) (detail : BitVec 8) :
    s.respond .config detail [] = { s with rsp := [(0 : BitVec 16) ++ detail ++ (0x07 : BitVec 8)] } := by
  have hrlen : rlenField 0 = 0 := by decide
  rw [State.respond, List.length_nil, statusWord, hrlen]
  rfl

theorem exec_endSettings_of_error (hadm : Admits s u .config) {detail : BitVec 8}
    (hbody : endSettingsBody u s = .done t .config detail []) :
    exec (Instr.endSettings u) s = .next { t with rsp := [(0 : BitVec 16) ++ detail ++ (0x07 : BitVec 8)] } := by
  rw [exec_endSettings, ← respond_config]
  exact pluginCommand_done hadm.running (.inr hadm.free) (decide_eq_true hadm.state) hbody

theorem exec_endSettings_configured (hadm : Admits s u .config) (htxn : (s.plug u).txnError = false)
    (hd : derivedAtEnd u s = (t, none)) :
    exec (Instr.endSettings u) s = .next { t.setPlug u (s.plug u).configured with rsp := [0x00000000] } := by
  rw [exec_endSettings, endSettingsCommand, endSettingsBody_configured htxn hd]
  exact pluginCommand_succeed hadm rfl

/-! What each unit's rule derives, from the registers of the unit. -/

theorem derivedAtEnd_decOok {d : DecOok} {r : Option Msg}
    (h : DecOok.derive { s.decOok with core := { s.decOok.core with plug := s.decOok.core.plug.endBracket } } = (d, r)) :
    derivedAtEnd (.dec .ook) s = ({ s with decOok := d }, r) := by
  simp only [derivedAtEnd, deriveUnit, State.setPlug, State.plug, h]

theorem derivedAtEnd_decPwm {d : DecPwm} {r : Option Msg}
    (h : DecPwm.derive { s.decPwm with core := { s.decPwm.core with plug := s.decPwm.core.plug.endBracket } } = (d, r)) :
    derivedAtEnd (.dec .pwm) s = ({ s with decPwm := d }, r) := by
  simp only [derivedAtEnd, deriveUnit, State.setPlug, State.plug, h]

theorem derivedAtEnd_decMorse {d : DecMorse} {r : Option Msg}
    (h : DecMorse.derive { s.decMorse with core := { s.decMorse.core with plug := s.decMorse.core.plug.endBracket } } =
      (d, r)) :
    derivedAtEnd (.dec .morse) s = ({ s with decMorse := d }, r) := by
  simp only [derivedAtEnd, deriveUnit, State.setPlug, State.plug, h]

theorem derivedAtEnd_decRaw :
    derivedAtEnd (.dec .raw) s = ({ s with decRaw := { s.decRaw with plug := s.decRaw.plug.endBracket } }, none) := rfl

theorem derivedAtEnd_encWave {e : EncWave} {r : Option Msg}
    (h : EncWave.derive { s.encWave with plug := s.encWave.plug.endBracket } = (e, r)) :
    derivedAtEnd (.enc .wave) s = ({ s with encWave := e }, r) := by
  simp only [derivedAtEnd, deriveUnit, State.setPlug, State.plug, h]

theorem derivedAtEnd_encWav {e : EncWav} {r : Option Msg}
    (h : EncWav.derive { s.encWav with plug := s.encWav.plug.endBracket } = (e, r)) :
    derivedAtEnd (.enc .wav) s = ({ s with encWav := e }, r) := by
  simp only [derivedAtEnd, deriveUnit, State.setPlug, State.plug, h]

theorem derivedAtEnd_encOok {e : EncSeq} {r : Option Msg}
    (h : EncSeq.derive { s.encOok with plug := s.encOok.plug.endBracket }
      (segsOok (s.encOok.plug.str 27) (s.encOok.plug.num 28) (s.encOok.plug.num 29)) = (e, r)) :
    derivedAtEnd (.enc .ook) s = ({ s with encOok := e }, r) :=
  congrArg (fun x : EncSeq × Option Msg => ({ s with encOok := x.1 }, x.2)) h

theorem derivedAtEnd_encPwm {e : EncSeq} {r : Option Msg}
    (h : EncSeq.derive { s.encPwm with plug := s.encPwm.plug.endBracket }
      (segsPwm (s.encPwm.plug.str 27) (s.encPwm.plug.num 30)) = (e, r)) :
    derivedAtEnd (.enc .pwm) s = ({ s with encPwm := e }, r) :=
  congrArg (fun x : EncSeq × Option Msg => ({ s with encPwm := x.1 }, x.2)) h

theorem derivedAtEnd_encMorse {e : EncSeq} {r : Option Msg}
    (h : EncSeq.derive { s.encMorse with plug := s.encMorse.plug.endBracket } (segsMorse (s.encMorse.plug.str 27)) =
      (e, r)) :
    derivedAtEnd (.enc .morse) s = ({ s with encMorse := e }, r) :=
  congrArg (fun x : EncSeq × Option Msg => ({ s with encMorse := x.1 }, x.2)) h

end Sys2Proof.Machine
end

section
/-! The rules of the decoders at `END_SETTINGS` (42_decoders.md R171, R173, R188, R193). -/

namespace Sys2Proof.Machine

/-! The length of a symbol. -/

theorem symbolLength?_tooShort {sps : Nat} (h : sps < 1000000) : symbolLength? sps = some .symbolTooShort :=
  if_pos h

theorem symbolLength?_tooLong {sps : Nat} (h : 2147483647 < sps / 1000000) : symbolLength? sps = some .symbolTooLong := by
  have hlong : ¬ sps < Config.mag := by
    change ¬ sps < 1000000
    omega
  exact (if_neg hlong).trans (if_pos h)

theorem Plug.viable.symbolLength? {p : Plug} (h : p.viable) : symbolLength? p.spsNum = none := by
  obtain ⟨hshort, hlong⟩ := h
  exact (if_neg (Nat.not_lt.2 hshort)).trans (if_neg (Nat.not_lt.2 hlong))

/-- A viable symbol's magnified length fits `sps_num`. -/
theorem Plug.viable.toNat_spsNum {p : Plug} (h : p.viable) :
    (BitVec.ofNat 64 (p.num 0 * p.num 1)).toNat = p.num 0 * p.num 1 := by
  obtain ⟨-, hlong⟩ := h
  exact Nat.mod_eq_of_lt (by omega)

/-! What the three symbol decoders have in common (R171). -/

theorem demod?_getD (n : Nat) : (demod? n).getD .none = if n = 1 then .abs else if n = 2 then .cos else .none := by
  match n with
  | 0 | 1 | 2 => rfl
  | k + 3 => simp [demod?]

theorem DecCore.deriveCommon_snd (c : DecCore) : c.deriveCommon.2 = symbolLength? c.plug.spsNum := by
  unfold DecCore.deriveCommon
  dsimp only
  split <;> (rename_i h; rw [h])

theorem DecCore.deriveCommon_viable {c : DecCore} (hv : c.plug.viable) :
    c.deriveCommon = ({ c with der := DecDerived.ofSettings c.plug }, none) := by
  simp only [DecCore.deriveCommon, hv.symbolLength?, demod?_getD]
  rfl

/-! The rules. -/

theorem DecOok.derive_viable {d : DecOok} (hv : d.core.plug.viable) (hsync : d.core.plug.num 9 ≠ 1) :
    d.derive =
      ({ core := { d.core with der := DecDerived.ofSettings d.core.plug },
         ook := { d.ook with
           n75 := BitVec.ofNat 32 (max 1 (3 * (d.core.plug.num 0 * d.core.plug.num 1) / 4000000)),
           bpd := d.core.plug.num 7,
           dpf := BitVec.ofNat 32 (d.core.plug.num 8) } }, none) := by
  simp only [DecOok.derive, DecCore.deriveCommon_viable hv, DecDerived.ofSettings, hv.toNat_spsNum]
  exact if_neg hsync

theorem DecPwm.derive_viable {d : DecPwm} (hv : d.core.plug.viable) :
    d.derive =
      ({ core := { d.core with der := DecDerived.ofSettings d.core.plug },
         pwm := { d.pwm with
           confirm := BitVec.ofNat 64 (max 1 (d.core.plug.num 0 * d.core.plug.num 1 / 1000000)) } }, none) := by
  simp only [DecPwm.derive, DecCore.deriveCommon_viable hv, DecDerived.ofSettings, hv.toNat_spsNum]
  rfl

/-- The thresholds are half of 1, 1 + 3, 1 + 3 and 3 + 7 units (R193, R195). -/
theorem DecMorse.derive_viable {d : DecMorse} (hv : d.core.plug.viable) :
    d.derive =
      ({ core := { d.core with der := DecDerived.ofSettings d.core.plug },
         morse := { d.morse with
           tDot := morseThreshold 1 (d.core.plug.num 0 * d.core.plug.num 1),
           tDash := morseThreshold 4 (d.core.plug.num 0 * d.core.plug.num 1),
           tChar := morseThreshold 4 (d.core.plug.num 0 * d.core.plug.num 1),
           tWord := morseThreshold 10 (d.core.plug.num 0 * d.core.plug.num 1) } }, none) := by
  simp only [DecMorse.derive, DecCore.deriveCommon_viable hv, DecDerived.ofSettings, hv.toNat_spsNum,
    Params.plcphy_morseUnits]

/-- Settles O24: each decoder's rule on a viable configuration. -/
theorem endSettingsConfiguresDecoders : Obligations.EndSettingsConfiguresDecoders := by
  refine ⟨fun s hadm htxn hv hsync => ?_, fun s hadm htxn hv => ?_, fun s hadm htxn hv => ?_, fun s hadm htxn => ?_⟩
  · exact exec_endSettings_configured hadm htxn (derivedAtEnd_decOok (DecOok.derive_viable hv hsync))
  · exact exec_endSettings_configured hadm htxn (derivedAtEnd_decPwm (DecPwm.derive_viable hv))
  · exact exec_endSettings_configured hadm htxn (derivedAtEnd_decMorse (DecMorse.derive_viable hv))
  · exact (exec_endSettings_configured hadm htxn derivedAtEnd_decRaw :)

end Sys2Proof.Machine
end

section
/-! The rules of the encoders at `END_SETTINGS` (43_encoders.md R212, R216, R219, R241), and the segment lists of the
bit-stream encoders (R221, R226, R231). -/

namespace Sys2Proof.Machine

theorem clampTX_natCast (n : Nat) : Num.clampTX (n : Int) = BitVec.ofNat 16 (min n 1023) := by
  rw [Num.clampTX_plcphy, Int.toNat_natCast]

/-! The bit-stream encoders (R219). -/

theorem EncSeq.derive_viable {e : EncSeq} {segs : List Segment} (hv : e.plug.viable)
    (hfits : ∀ g ∈ segs, g.d * (e.plug.num 0 * e.plug.num 1) < 2 ^ 62) :
    e.derive segs =
      ({ e with spsNum := BitVec.ofNat 64 (e.plug.num 0 * e.plug.num 1),
                efw := BitVec.ofNat 32 (e.plug.num 19 * 2 ^ 32 / e.plug.num 0), amp := BitVec.ofNat 16 (e.plug.num 18 / 2),
                lvl0 := BitVec.ofNat 16 (min (e.plug.num 17) 1023), segs := segs }, none) := by
  have hany : ¬ segs.any (fun g => decide (g.d * e.plug.spsNum ≥ 2 ^ 62)) = true := by
    rw [List.any_eq_true]
    rintro ⟨g, hg, hlong⟩
    exact absurd (of_decide_eq_true hlong) (Nat.not_le.2 (hfits g hg))
  simp only [EncSeq.derive, hv.symbolLength?, if_neg hany, clampTX_natCast]
  rfl

/-! The segment lists. -/

theorem ookByteSegments_eq (ig : Nat) (b : Byte) :
    ookByteSegments ig b =
      ⟨true, 1⟩ :: (List.range 8).map (fun k => (⟨b.getLsbD (7 - k), 1⟩ : Segment)) ++ [⟨false, ig⟩] :=
  rfl

/-- A character has one row at most, so the row with it is the one found (R196). -/
theorem morseTable_find? {row : MorseRow} (hrow : row ∈ morseTable) :
    morseTable.find? (fun r => r.char == row.char) = some row := by
  cases hfind : morseTable.find? (fun r => r.char == row.char) with
  | none => exact absurd (beq_self_eq_true row.char) (List.find?_eq_none.1 hfind row hrow)
  | some r =>
    have hchar := List.find?_some hfind
    have hmem := List.mem_of_find?_eq_some hfind
    exact congrArg some (List.inj_on_of_nodup_map Params.plcphy_legal.morseChars hmem hrow (beq_iff_eq.1 hchar))

theorem morseTable_no_space : ∀ row ∈ morseTable, row.char ≠ 0x20 := by decide

theorem morseByteSegments_space {b : Byte} (hc : upperCase b = 0x20) : morseByteSegments b = [⟨false, 7 - 3⟩] := by
  simp only [morseByteSegments, hc, if_true, Params.plcphy_morseUnits]

theorem morseByteSegments_char {b : Byte} {row : MorseRow} (hrow : row ∈ morseTable) (hc : row.char = upperCase b) :
    morseByteSegments b =
      row.code.flatMap (fun dash => [(⟨true, if dash then 3 else 1⟩ : Segment), ⟨false, 1⟩]) ++ [⟨false, 3 - 1⟩] := by
  have hspace := morseTable_no_space row hrow
  simp only [morseByteSegments, ← hc, if_neg hspace, Params.plcphy_morseTable, morseTable_find? hrow,
    Params.plcphy_morseUnits]

theorem morseByteSegments_other {b : Byte} (hspace : upperCase b ≠ 0x20)
    (hc : ∀ row ∈ morseTable, row.char ≠ upperCase b) : morseByteSegments b = [] := by
  have hfind : morseTable.find? (fun r => r.char == upperCase b) = none :=
    List.find?_eq_none.2 fun row hrow => by simpa using hc row hrow
  simp only [morseByteSegments, if_neg hspace, Params.plcphy_morseTable, hfind]

/-- Settles O25: the shared rule on a viable configuration, and each encoder's list byte by byte. -/
theorem endSettingsConfiguresBitStreamEncoders : Obligations.EndSettingsConfiguresBitStreamEncoders := by
  refine ⟨fun s hadm htxn hv hfits => ?_, fun s hadm htxn hv hfits => ?_, fun s hadm htxn hv hfits => ?_,
    fun message sg ig => ?_, fun message g => rfl, morseByteSegments, fun message => rfl, fun b => ?_⟩
  · exact exec_endSettings_configured hadm htxn (derivedAtEnd_encOok (EncSeq.derive_viable hv hfits))
  · exact exec_endSettings_configured hadm htxn (derivedAtEnd_encPwm (EncSeq.derive_viable hv hfits))
  · exact exec_endSettings_configured hadm htxn (derivedAtEnd_encMorse (EncSeq.derive_viable hv hfits))
  · rw [segsOok, funext (ookByteSegments_eq ig)]
  · exact ⟨morseByteSegments_space, fun row hrow hc => morseByteSegments_char hrow hc, morseByteSegments_other⟩

/-! The wave encoder (R212, R216). -/

/-- The registers of ENC_WAVE that every configuration derives (R212). -/
def EncWave.configure (e : EncWave) : EncWave :=
  { e with stype := e.plug.num 16, efw := BitVec.ofNat 32 (e.plug.num 19 * 2 ^ 32 / e.plug.num 0),
           rng := BitVec.ofNat 16 (e.plug.num 18), amp := BitVec.ofNat 16 (e.plug.num 18 / 2),
           lo := (e.plug.num 17 : Int) - ((e.plug.num 18 / 2 : Nat) : Int),
           lvl0 := BitVec.ofNat 16 (min (e.plug.num 17) 1023) }

/-- The frequency words of a sweep (R216). -/
def Plug.sweepFws (p : Plug) : List (BitVec 32) :=
  (List.range (p.num 21)).map (fun i =>
    BitVec.ofNat 32 (sweepFreq (p.num 19) (p.num 20) (p.num 21) i * 2 ^ 32 / p.num 0))

/-- The length of the iteration with frequency word `w` (R216). -/
def Plug.sweepLength (p : Plug) (w : BitVec 32) : Nat := bestLen (p.num 22) w.toNat

/-- The registers of ENC_WAVE that every sweep derives (R216). -/
def EncWave.configureSweep (e : EncWave) : EncWave :=
  { e.configure with k := BitVec.ofNat 32 (e.plug.num 21), swFw := e.plug.sweepFws,
                     swLen := e.plug.sweepFws.map (fun w => BitVec.ofNat 32 (e.plug.sweepLength w)) }

variable {e : EncWave}

theorem EncWave.derive_noSweep (h : e.plug.num 16 ≠ 5) : e.derive = (e.configure, none) := by
  simp only [EncWave.derive, clampTX_natCast]
  exact if_neg h

/-- With stream type sweep the rule is `derive_sweep` from the registers of every configuration. -/
theorem EncWave.derive_sweep (h : e.plug.num 16 = 5) : e.derive = e.configure.deriveSweep := by
  simp only [EncWave.derive, clampTX_natCast]
  exact if_pos h

/-- A tone of a sweep: sample `n` of the iteration with frequency word `w` (R216). -/
def EncWave.sweepEntry (e : EncWave) (w : BitVec 32) (n : Nat) : Sample :=
  BitVec.ofNat 16 (min ((e.plug.num 17 : Int) + Num.rnd (Num.mul
    (Num.ofInt (BitVec.ofNat 16 (e.plug.num 18 / 2)).toNat) (Num.sinw (BitVec.ofNat 32 n * w)))).toNat 1023)

theorem EncWave.tone_configureSweep (w : BitVec 32) (n : Nat) : e.configureSweep.tone w n = e.sweepEntry w n :=
  toneSample_plcphy ..

/-- The three ends of `derive_sweep`: precomputed and too long, precomputed, and not precomputed. -/
theorem EncWave.deriveSweep_configure (e : EncWave) :
    e.configure.deriveSweep =
      if e.plug.num 23 = 1 then
        if 1048576 < (e.plug.sweepFws.map e.plug.sweepLength).sum then (e.configureSweep, some .sweepInvalid)
        else
          ({ e.configureSweep with
              swLut := (e.plug.sweepFws.zip (e.plug.sweepFws.map e.plug.sweepLength)).map (fun x =>
                (List.range x.2).map (fun n => e.configureSweep.tone x.1 n)) }, none)
      else (e.configureSweep, none) := by
  simp only [EncWave.configureSweep, ← Function.comp_def (BitVec.ofNat 32), ← List.map_map]
  rfl

theorem EncWave.derive_sweep_live (h : e.plug.num 16 = 5) (hpre : e.plug.num 23 ≠ 1) :
    e.derive = (e.configureSweep, none) := by
  rw [EncWave.derive_sweep h, EncWave.deriveSweep_configure, if_neg hpre]

theorem EncWave.derive_sweep_tooLong (h : e.plug.num 16 = 5) (hpre : e.plug.num 23 = 1)
    (hlen : 1048576 < (e.plug.sweepFws.map e.plug.sweepLength).sum) :
    e.derive = (e.configureSweep, some .sweepInvalid) := by
  rw [EncWave.derive_sweep h, EncWave.deriveSweep_configure, if_pos hpre, if_pos hlen]

theorem EncWave.derive_sweep_precomputed (h : e.plug.num 16 = 5) (hpre : e.plug.num 23 = 1)
    (hlen : (e.plug.sweepFws.map e.plug.sweepLength).sum ≤ 1048576) :
    e.derive =
      ({ e.configureSweep with
          swLut := e.plug.sweepFws.map (fun w => (List.range (e.plug.sweepLength w)).map (e.sweepEntry w)) }, none) := by
  rw [EncWave.derive_sweep h, EncWave.deriveSweep_configure, if_pos hpre, if_neg (Nat.not_lt.2 hlen),
    ← List.map_prod_left_eq_zip, List.map_map]
  simp only [EncWave.tone_configureSweep]
  rfl

/-! The length of a sweep iteration (R216). -/

/-- Of the lengths from `lo` below `hi`, `len` has the least distance from a whole number of cycles, and no larger one has
the same. -/
structure BestLength (w lo hi len : Nat) : Prop where
  ge : lo ≤ len
  lt : len < hi
  least : ∀ k, lo ≤ k → k < hi → sweepDist w len ≤ sweepDist w k
  largest : ∀ k, lo ≤ k → k < hi → len < k → sweepDist w len < sweepDist w k

namespace BestLength

variable {w lo hi len : Nat}

theorem single (w lo : Nat) : BestLength w lo (lo + 1) lo where
  ge := le_rfl
  lt := Nat.lt_succ_self lo
  least k hlo hhi := by rw [show k = lo by omega]
  largest k hlo hhi hk := by omega

/-- One length more: it is the best where it is as near as the best so far. -/
theorem extend (h : BestLength w lo hi len) :
    BestLength w lo (hi + 1) (if sweepDist w hi ≤ sweepDist w len then hi else len) := by
  obtain ⟨hge, hlt, hleast, hlargest⟩ := h
  by_cases hnear : sweepDist w hi ≤ sweepDist w len
  · rw [if_pos hnear]
    refine ⟨by omega, Nat.lt_succ_self hi, fun k hlo hk => ?_, fun k hlo hk hafter => by omega⟩
    rcases Nat.lt_succ_iff_lt_or_eq.1 hk with hbefore | rfl
    · exact hnear.trans (hleast k hlo hbefore)
    · exact le_rfl
  · rw [if_neg hnear]
    refine ⟨hge, by omega, fun k hlo hk => ?_, fun k hlo hk hafter => ?_⟩
    · rcases Nat.lt_succ_iff_lt_or_eq.1 hk with hbefore | rfl
      · exact hleast k hlo hbefore
      · exact (Nat.not_le.1 hnear).le
    · rcases Nat.lt_succ_iff_lt_or_eq.1 hk with hbefore | rfl
      · exact hlargest k hlo hbefore hafter
      · exact Nat.not_le.1 hnear

theorem bestLenFrom (count : Nat) (h : BestLength w lo hi len) :
    BestLength w lo (hi + count) (bestLenFrom w count hi len) := by
  induction count generalizing hi len with
  | zero => exact h
  | succ count ih =>
    rw [Nat.add_comm count 1, ← Nat.add_assoc, Nat.add_comm 1 count]
    exact ih h.extend

end BestLength

/-- `best_len` is the best of the lengths in `[Lnom div 2 + 1, Lnom]`. -/
theorem bestLength_bestLen {lnom : Nat} (w : Nat) (h : 1 ≤ lnom) :
    BestLength w (lnom / 2 + 1) (lnom + 1) (bestLen lnom w) := by
  have hall := (BestLength.single w (lnom / 2 + 1)).bestLenFrom (lnom - (lnom / 2 + 1))
  rwa [show lnom / 2 + 1 + 1 + (lnom - (lnom / 2 + 1)) = lnom + 1 by omega] at hall

/-! The playback encoder (R241). -/

theorem EncWav.derive_valid {e : EncWav} (hformat : e.pbFormat = 1) (hchannels : e.pbChannels = 1)
    (hbits : e.pbBits = 8 ∨ e.pbBits = 16 ∧ e.pbBytes.toNat % 2 = 0) :
    e.derive =
      ({ e with pbCount := BitVec.ofNat 32 (if e.pbBits = 8 then e.pbBytes.toNat else e.pbBytes.toNat / 2),
                lvl0 := BitVec.ofNat 16 (min (e.plug.num 17) 1023), rep := decide (e.plug.num 26 = 1) }, none) := by
  have hkind : ¬ (e.pbFormat ≠ 1 ∨ e.pbChannels ≠ 1) := fun h => h.elim (· hformat) (· hchannels)
  have hsize : ¬ (e.pbBits ≠ 8 ∧ e.pbBits ≠ 16) := fun ⟨h8, h16⟩ => hbits.elim h8 fun h => h16 h.1
  have hwhole : ¬ (e.pbBits = 16 ∧ e.pbBytes.toNat % 2 ≠ 0) := by
    rintro ⟨h16, hodd⟩
    rcases hbits with h8 | ⟨-, heven⟩
    · rw [h8] at h16
      exact absurd h16 (by decide)
    · exact hodd heven
  have hcount : e.pbBytes.toNat / (e.pbBits.toNat / 8) = if e.pbBits = 8 then e.pbBytes.toNat else e.pbBytes.toNat / 2 := by
    rcases hbits with h8 | ⟨h16, -⟩
    · rw [h8, if_pos rfl]
      exact Nat.div_one _
    · rw [h16]
      rfl
  rw [EncWav.derive, if_neg hkind, if_neg hsize, if_neg hwhole, hcount, clampTX_natCast]
  rfl

theorem EncWav.derive_invalid {e : EncWav}
    (h : e.pbFormat ≠ 1 ∨ e.pbChannels ≠ 1 ∨ (e.pbBits ≠ 8 ∧ e.pbBits ≠ 16) ∨
      (e.pbBits = 16 ∧ e.pbBytes.toNat % 2 = 1)) : e.derive = (e, some .playbackFormat) := by
  unfold EncWav.derive
  split
  · rfl
  · split
    · rfl
    · split
      · rfl
      · rename_i hkind hsize hwhole
        rcases h with h | h | h | ⟨h16, hodd⟩
        · exact absurd (.inl h) hkind
        · exact absurd (.inr h) hkind
        · exact absurd h hsize
        · exact absurd ⟨h16, by omega⟩ hwhole

/-- Settles O26: the rule of each shape of ENC_WAVE and of ENC_WAV on a configuration it accepts, and `best_len`. -/
theorem endSettingsConfiguresWaveAndPlayback : Obligations.EndSettingsConfiguresWaveAndPlayback := by
  refine ⟨⟨fun s hadm htxn => ⟨fun hstype => ?_, fun hstype hpre => ?_, fun hstype hpre hlen => ?_⟩,
    fun s hadm htxn hformat hchannels hbits => ?_⟩, fun lnom w hlnom => ?_⟩
  · exact exec_endSettings_configured hadm htxn (derivedAtEnd_encWave (EncWave.derive_noSweep hstype))
  · exact exec_endSettings_configured hadm htxn (derivedAtEnd_encWave (EncWave.derive_sweep_live hstype hpre))
  · exact exec_endSettings_configured hadm htxn (derivedAtEnd_encWave (EncWave.derive_sweep_precomputed hstype hpre hlen))
  · exact exec_endSettings_configured hadm htxn (derivedAtEnd_encWav (EncWav.derive_valid hformat hchannels hbits))
  · obtain ⟨hge, hlt, hleast, hlargest⟩ := bestLength_bestLen w hlnom
    exact ⟨hge, Nat.le_of_lt_succ hlt, fun len hlo hhi =>
      ⟨hleast len hlo (Nat.lt_succ_of_le hhi), hlargest len hlo (Nat.lt_succ_of_le hhi)⟩⟩

end Sys2Proof.Machine
end

section
/-! A refused `END_SETTINGS` (41_lifecycle_settings.md R147; 60_exceptions.md R302, R303): the message of each configuration
that is not viable, and what stays. -/

namespace Sys2Proof.Machine

variable {s t : State} {u : PluginUnit} {m : Msg}

/-! The registers no rule derives. -/

theorem working_setPlug (s : State) (u : PluginUnit) (p : Plug) : (s.setPlug u p).working u = s.working u := by
  rcases u with (_ | _ | _ | _) | (_ | _ | _ | _ | _) <;> rfl

theorem DecCore.deriveCommon_frame (c : DecCore) : ∃ der, c.deriveCommon.1 = { c with der := der } := by
  unfold DecCore.deriveCommon
  dsimp only
  split <;> exact ⟨_, rfl⟩

theorem DecOok.derive_frame (d : DecOok) :
    ∃ der n75 bpd dpf, d.derive.1 =
      { core := { d.core with der := der }, ook := { d.ook with n75 := n75, bpd := bpd, dpf := dpf } } := by
  obtain ⟨der, hder⟩ := d.core.deriveCommon_frame
  unfold DecOok.derive
  split
  · rename_i h; rw [h] at hder; exact ⟨der, _, _, _, by rw [← hder]⟩
  · rename_i h
    rw [h] at hder
    split
    · exact ⟨der, _, _, _, by rw [← hder]⟩
    · exact ⟨der, _, _, _, by rw [← hder]⟩

theorem DecPwm.derive_frame (d : DecPwm) :
    ∃ der confirm, d.derive.1 = { core := { d.core with der := der }, pwm := { d.pwm with confirm := confirm } } := by
  obtain ⟨der, hder⟩ := d.core.deriveCommon_frame
  unfold DecPwm.derive
  split <;> (rename_i h; rw [h] at hder; exact ⟨der, _, by rw [← hder]⟩)

theorem DecMorse.derive_frame (d : DecMorse) :
    ∃ der tDot tDash tChar tWord, d.derive.1 =
      { core := { d.core with der := der },
        morse := { d.morse with tDot := tDot, tDash := tDash, tChar := tChar, tWord := tWord } } := by
  obtain ⟨der, hder⟩ := d.core.deriveCommon_frame
  unfold DecMorse.derive
  split <;> (rename_i h; rw [h] at hder; exact ⟨der, _, _, _, _, by rw [← hder]⟩)

theorem EncWave.derive_working (e : EncWave) :
    e.derive.1.phase = e.phase ∧ e.derive.1.sweepIter = e.sweepIter ∧ e.derive.1.sweepN = e.sweepN := by
  unfold EncWave.derive EncWave.deriveSweep
  dsimp only
  split
  · split
    · split <;> exact ⟨rfl, rfl, rfl⟩
    · exact ⟨rfl, rfl, rfl⟩
  · exact ⟨rfl, rfl, rfl⟩

theorem EncWav.derive_frame (e : EncWav) :
    ∃ pbCount lvl0 rep, e.derive.1 = { e with pbCount := pbCount, lvl0 := lvl0, rep := rep } := by
  unfold EncWav.derive
  split_ifs <;> exact ⟨_, _, _, rfl⟩

theorem EncSeq.derive_working (e : EncSeq) (segs : List Segment) (k : EncUnit) :
    (e.derive segs).1.working k = e.working k := by
  unfold EncSeq.derive
  dsimp only
  split
  · rfl
  · split <;> rfl

theorem working_deriveUnit (u : PluginUnit) (s : State) : (deriveUnit u s).1.working u = s.working u := by
  cases u with
  | dec d =>
    cases d with
    | ook =>
      obtain ⟨der, n75, bpd, dpf, h⟩ := s.decOok.derive_frame
      simp only [deriveUnit, State.working, h]
    | pwm =>
      obtain ⟨der, confirm, h⟩ := s.decPwm.derive_frame
      simp only [deriveUnit, State.working, h]
    | morse =>
      obtain ⟨der, tDot, tDash, tChar, tWord, h⟩ := s.decMorse.derive_frame
      simp only [deriveUnit, State.working, h]
    | raw => rfl
  | enc e =>
    cases e with
    | wave =>
      obtain ⟨hphase, hiter, hn⟩ := s.encWave.derive_working
      simp only [deriveUnit, State.working, hphase, hiter, hn]
    | wav =>
      obtain ⟨pbCount, lvl0, rep, h⟩ := s.encWav.derive_frame
      simp only [deriveUnit, State.working, h]
    | ook | pwm | morse => simp only [deriveUnit, State.working, EncSeq.derive_working]

theorem working_derivedAtEnd (u : PluginUnit) (s : State) : (derivedAtEnd u s).1.working u = s.working u := by
  rw [derivedAtEnd, working_deriveUnit, working_setPlug]

/-- A configuration error: the plugin registers of R147, and nothing else but what the unit's rule derives. -/
theorem exec_endSettings_misconfigured (hadm : Admits s u .config) (htxn : (s.plug u).txnError = false)
    (hm : (derivedAtEnd u s).2 = some m) :
    ∃ t, exec (Instr.endSettings u) s = .next t ∧ t.plug u = (s.plug u).misconfigured m.code ∧
      t.working u = s.working u ∧ t.rsp = [(0 : BitVec 16) ++ m.code ++ (0x07 : BitVec 8)] ∧ OnlyUnit u s t := by
  have hwrite := onlyUnit_setPlug (derivedAtEnd u s).1 u ((s.plug u).misconfigured m.code)
  obtain ⟨hothers, hsystem, hports⟩ := (onlyUnit_derivedAtEnd u s).trans hwrite
  refine ⟨_, exec_endSettings_of_error hadm (endSettingsBody_misconfigured htxn hm), State.plug_setPlug .., ?_, rfl,
    hothers, hsystem, hports⟩
  exact (working_setPlug ..).trans (working_derivedAtEnd u s)

/-! The messages. -/

theorem DecOok.derive_symbolLength {d : DecOok} (h : symbolLength? d.core.plug.spsNum = some m) :
    d.derive.2 = some m := by
  rw [← DecCore.deriveCommon_snd] at h
  unfold DecOok.derive
  split <;> (rename_i hc; rw [hc] at h)
  · exact h
  · cases h

theorem DecPwm.derive_symbolLength {d : DecPwm} (h : symbolLength? d.core.plug.spsNum = some m) :
    d.derive.2 = some m := by
  rw [← DecCore.deriveCommon_snd] at h
  unfold DecPwm.derive
  split <;> (rename_i hc; rw [hc] at h)
  · exact h
  · cases h

theorem DecMorse.derive_symbolLength {d : DecMorse} (h : symbolLength? d.core.plug.spsNum = some m) :
    d.derive.2 = some m := by
  rw [← DecCore.deriveCommon_snd] at h
  unfold DecMorse.derive
  split <;> (rename_i hc; rw [hc] at h)
  · exact h
  · cases h

theorem EncSeq.derive_symbolLength {e : EncSeq} {segs : List Segment} (h : symbolLength? e.plug.spsNum = some m) :
    (e.derive segs).2 = some m := by
  simp only [EncSeq.derive, h]

theorem EncSeq.derive_longSegment {e : EncSeq} {segs : List Segment} (hv : e.plug.viable)
    (hlong : ∃ g ∈ segs, 2 ^ 62 ≤ g.d * (e.plug.num 0 * e.plug.num 1)) : (e.derive segs).2 = some .symbolTooLong := by
  have hany : segs.any (fun g => decide (g.d * e.plug.spsNum ≥ 2 ^ 62)) = true := by
    obtain ⟨g, hg, h⟩ := hlong
    exact List.any_eq_true.2 ⟨g, hg, decide_eq_true h⟩
  simp only [EncSeq.derive, hv.symbolLength?, if_pos hany]

theorem DecOok.derive_resync {d : DecOok} (hv : d.core.plug.viable) (hsync : d.core.plug.num 9 = 1) :
    d.derive.2 = some .resyncUnsupported := by
  simp only [DecOok.derive, DecCore.deriveCommon_viable hv]
  exact congrArg Prod.snd (if_pos hsync)

/-- The units with symbols: all but DEC_RAW, ENC_WAVE and ENC_WAV. -/
theorem derivedAtEnd_symbolLength
    (hu : u ∈ [PluginUnit.dec .ook, .dec .pwm, .dec .morse, .enc .ook, .enc .pwm, .enc .morse])
    (h : symbolLength? (s.plug u).spsNum = some m) : (derivedAtEnd u s).2 = some m := by
  simp only [List.mem_cons, List.not_mem_nil, or_false] at hu
  rcases hu with rfl | rfl | rfl | rfl | rfl | rfl
  · exact DecOok.derive_symbolLength h
  · exact DecPwm.derive_symbolLength h
  · exact DecMorse.derive_symbolLength h
  · exact EncSeq.derive_symbolLength h
  · exact EncSeq.derive_symbolLength h
  · exact EncSeq.derive_symbolLength h

/-- Settles O27: the message of each configuration that is not viable, and the refusal. -/
theorem endSettingsRejectsBadConfigurations : Obligations.EndSettingsRejectsBadConfigurations := by
  intro u s hadm p sps answer fails failsBare symbols long
  refine ⟨fun htxn => ?rejected, fun htxn hu hshort => ?short, fun htxn hu hlong => ?long, fun htxn hv => ?segment,
    fun htxn hu hv hsync => ?resync, fun htxn hu hbad => ?playback, fun htxn hu hsweep hpre hlen => ?sweep⟩
  case rejected => exact exec_endSettings_of_error hadm (endSettingsBody_rejected htxn)
  case short =>
    exact exec_endSettings_misconfigured hadm htxn (derivedAtEnd_symbolLength hu (symbolLength?_tooShort hshort))
  case long => exact exec_endSettings_misconfigured hadm htxn (derivedAtEnd_symbolLength hu (symbolLength?_tooLong hlong))
  case segment =>
    refine ⟨?_, ?_⟩
    · rintro rfl hlong
      exact exec_endSettings_misconfigured (m := .symbolTooLong) hadm htxn (EncSeq.derive_longSegment hv hlong)
    · rintro rfl hlong
      exact exec_endSettings_misconfigured (m := .symbolTooLong) hadm htxn (EncSeq.derive_longSegment hv hlong)
  case resync =>
    subst hu
    exact exec_endSettings_misconfigured (m := .resyncUnsupported) hadm htxn (DecOok.derive_resync hv hsync)
  case playback =>
    subst hu
    have hder := derivedAtEnd_encWav (s := s) (EncWav.derive_invalid hbad)
    have hbody := endSettingsBody_misconfigured htxn (congrArg Prod.snd hder)
    rw [hder] at hbody
    exact exec_endSettings_of_error hadm hbody
  case sweep =>
    subst hu
    have hder := EncWave.derive_sweep_tooLong (e := { s.encWave with plug := s.encWave.plug.endBracket }) hsweep hpre
      (by rw [Plug.sweepFws, List.map_map]; exact hlen)
    exact exec_endSettings_misconfigured hadm htxn (congrArg Prod.snd (derivedAtEnd_encWave hder))

end Sys2Proof.Machine
end

section
/-! `READ_DECODED` (42_decoders.md R205). -/

namespace Sys2Proof.Machine

theorem exec_readDecoded (d : DecUnit) (m : BitVec 16) (s : State) :
    exec (Instr.readDecoded d m) s = readDecodedCommand d m s := by
  cases d <;> rfl

/-- A decoder that exists gives its first bytes, busy or not (R205). -/
theorem readDecodedCommand_done {d : DecUnit} {s : State} (hrun : s.halted = false)
    (hlc : (s.plug (.dec d)).lc ≠ .absent) (m : BitVec 16) :
    readDecodedCommand d m s =
      .next ((s.setDout d ((s.dout d).drop m.toNat)).respond .ok 0 (stringWords ((s.dout d).take m.toNat))) :=
  pluginCommand_done hrun (.inl rfl) (decide_eq_true hlc) rfl

theorem length_stringWords (bs : List Byte) : (stringWords bs).length = 1 + (bs.length + 3) / 4 := by
  rw [stringWords, List.length_cons, length_packBytes, Nat.add_comm]
  rfl

/-- Settles O36: the command without its checks; taking or dropping more bytes than `dout` holds takes or drops all. -/
theorem readDecodedTakesBytesInOrder : Obligations.ReadDecodedTakesBytesInOrder := by
  intro d m s hrun hlc len
  have htake : (s.dout d).take m.toNat = (s.dout d).take len := List.take_eq_take_min
  have hdrop : (s.dout d).drop m.toNat = (s.dout d).drop len := by
    rw [List.drop_eq_drop_iff, Nat.min_eq_left (Nat.min_le_right ..)]
  have hlen : ((s.dout d).take len).length = len := List.length_take_of_le (Nat.min_le_right ..)
  have hle : len ≤ m.toNat := Nat.min_le_left ..
  have hm := m.isLt
  rw [exec_readDecoded, readDecodedCommand_done hrun hlc, htake, hdrop, State.respond, length_stringWords, hlen,
    statusWord_ok (by omega), stringWords, countWord, hlen]

end Sys2Proof.Machine
end

section
/-! The decoders of pulse widths and of Morse code (42_decoders.md R190, R191, R196 to R198, R200): what a run of outputs
with carrier, and one without, makes of the working registers. -/

namespace Sys2Proof.Machine

variable {thr : REAL} {sps : Nat} {on off : List REAL} {y z : REAL}

/-- A counter that does not saturate (R357). -/
theorem satInc_of_lt {x : BitVec 64} (h : x.toNat + 1 < 2 ^ 64) : satInc x = x + 1 ∧ (x + 1).toNat = x.toNat + 1 := by
  refine ⟨if_neg (by omega), ?_⟩
  rw [BitVec.toNat_add]
  exact Nat.mod_eq_of_lt h

theorem one_add_ofNat (n : Nat) : 1 + BitVec.ofNat 64 n = BitVec.ofNat 64 (n + 1) := by
  rw [Nat.add_comm n, BitVec.ofNat_add]
  rfl

theorem add_one_add_ofNat (x : BitVec 64) (n : Nat) : x + 1 + BitVec.ofNat 64 n = x + BitVec.ofNat 64 (n + 1) := by
  rw [BitVec.add_assoc, one_add_ofNat]

/-! DEC_PWM. -/

namespace PwmRegs

variable {r : PwmRegs}

theorem sample_carrier (hy : Num.gt y thr = true) : sample thr sps r y = ({ r with w := satInc r.w, wo := 0 }, []) :=
  if_pos hy

/-- What a confirmed run of `k` samples with carrier emits: its width in symbols, or nothing (R191). -/
def widthByte (sps k : Nat) : List Byte :=
  let v := (k * Config.mag + sps / 2) / sps
  if 32 ≤ v ∧ v ≤ 255 then [BitVec.ofNat 8 v] else []

/-- A sample without carrier, after a run that is not confirmed yet (R190). -/
theorem sample_silence (hy : Num.gt y thr = false) (hw : 0 < r.w.toNat) :
    sample thr sps r y =
      if satInc r.wo = r.confirm then ({ r with w := 0, wo := 0 }, widthByte sps r.w.toNat)
      else ({ r with wo := satInc r.wo }, []) :=
  (if_neg (ne_true_of_eq_false hy)).trans (if_pos hw)

theorem sample_waiting (hy : Num.gt y thr = false) (hw : 0 < r.w.toNat) (hwo : r.wo.toNat + 1 < r.confirm.toNat) :
    sample thr sps r y = ({ r with wo := r.wo + 1 }, []) := by
  obtain ⟨hinc, hnat⟩ := satInc_of_lt (x := r.wo) (by omega)
  have hne : r.wo + 1 ≠ r.confirm := fun h => by
    have := hnat.symm.trans (congrArg BitVec.toNat h)
    omega
  rw [sample_silence hy hw, hinc, if_neg hne]

theorem sample_confirmed (hy : Num.gt y thr = false) (hw : 0 < r.w.toNat) (hwo : r.wo.toNat + 1 = r.confirm.toNat) :
    sample thr sps r y = ({ r with w := 0, wo := 0 }, widthByte sps r.w.toNat) := by
  obtain ⟨hinc, hnat⟩ := satInc_of_lt (x := r.wo) (by omega)
  rw [sample_silence hy hw, hinc, if_pos (BitVec.eq_of_toNat_eq (hnat.trans hwo))]

theorem parse_cons (thr : REAL) (sps : Nat) (y : REAL) (ys : List REAL) (r : PwmRegs) :
    parse thr sps (y :: ys) r =
      ((parse thr sps ys (sample thr sps r y).1).1, (sample thr sps r y).2 ++ (parse thr sps ys (sample thr sps r y).1).2) :=
  rfl

/-- No chunk boundary matters: the registers carry all that the samples before left (R190). -/
theorem parse_append (thr : REAL) (sps : Nat) (xs ys : List REAL) (r : PwmRegs) :
    parse thr sps (xs ++ ys) r =
      ((parse thr sps ys (parse thr sps xs r).1).1,
        (parse thr sps xs r).2 ++ (parse thr sps ys (parse thr sps xs r).1).2) := by
  induction xs generalizing r with
  | nil => rfl
  | cons x xs ih => simp only [List.cons_append, parse_cons, ih, List.append_assoc]

/-- A run of samples with carrier is counted. -/
theorem parse_carriers (hy : Num.gt y thr = true) (hon : ∀ x ∈ on, Num.gt x thr = true)
    (hlen : r.w.toNat + (on.length + 1) < 2 ^ 64) :
    parse thr sps (y :: on) r = ({ r with w := r.w + BitVec.ofNat 64 (on.length + 1), wo := 0 }, []) := by
  induction on generalizing r y with
  | nil =>
    obtain ⟨hinc, -⟩ := satInc_of_lt (x := r.w) hlen
    rw [parse_cons, sample_carrier hy, hinc]
    rfl
  | cons x on ih =>
    rw [List.length_cons] at hlen
    obtain ⟨hinc, hnat⟩ := satInc_of_lt (x := r.w) (by omega)
    obtain ⟨hx, hon⟩ := List.forall_mem_cons.1 hon
    rw [parse_cons, sample_carrier hy, hinc,
      ih (r := { r with w := r.w + 1, wo := 0 }) hx hon (by simp only; omega), add_one_add_ofNat]
    rfl

/-- A run that `confirm` samples without carrier end gives its width, or is noise (R191). -/
theorem parse_confirmed (hw : 0 < r.w.toNat) (hz : Num.gt z thr = false) (hoff : ∀ x ∈ off, Num.gt x thr = false)
    (hlen : r.wo.toNat + (off.length + 1) = r.confirm.toNat) :
    parse thr sps (z :: off) r = ({ r with w := 0, wo := 0 }, widthByte sps r.w.toNat) := by
  induction off generalizing r z with
  | nil => rw [parse_cons, sample_confirmed hz hw hlen, parse, List.append_nil]
  | cons x off ih =>
    rw [List.length_cons] at hlen
    obtain ⟨-, hnat⟩ := satInc_of_lt (x := r.wo) (by omega)
    obtain ⟨hx, hoff⟩ := List.forall_mem_cons.1 hoff
    rw [parse_cons, sample_waiting hz hw (by omega),
      ih (r := { r with wo := r.wo + 1 }) hw hx hoff (by simp only; omega), List.nil_append]

/-- The pulse of R191: counted, then confirmed. -/
theorem parse_pulse (hw : r.w = 0) (hconfirm : 0 < r.confirm.toNat) (hon : ∀ y ∈ on, Num.gt y thr = true)
    (hoff : ∀ y ∈ off, Num.gt y thr = false) (hpos : 0 < on.length) (hlt : on.length < 2 ^ 64)
    (hlen : off.length = r.confirm.toNat) :
    parse thr sps (on ++ off) r = ({ r with w := 0, wo := 0 }, widthByte sps on.length) := by
  obtain ⟨y, on, rfl⟩ := List.exists_cons_of_length_pos hpos
  obtain ⟨z, off, rfl⟩ := List.exists_cons_of_length_pos (hlen ▸ hconfirm)
  obtain ⟨hy, hon⟩ := List.forall_mem_cons.1 hon
  obtain ⟨hz, hoff⟩ := List.forall_mem_cons.1 hoff
  rw [List.length_cons] at hlt hlen
  have hcount : (r.w + BitVec.ofNat 64 (on.length + 1)).toNat = on.length + 1 := by
    rw [hw]
    exact (congrArg BitVec.toNat (BitVec.zero_add _)).trans (Nat.mod_eq_of_lt hlt)
  have hrun := parse_carriers (sps := sps) (r := r) hy hon (by rw [hw]; exact (Nat.zero_add _).trans_lt hlt)
  have hend := parse_confirmed (sps := sps) (r := { r with w := r.w + BitVec.ofNat 64 (on.length + 1), wo := 0 })
    (by rw [hcount]; exact Nat.succ_pos _) hz hoff ((Nat.zero_add _).trans hlen)
  rw [parse_append, hrun, hend, hcount, List.nil_append, List.length_cons]

end PwmRegs

/-! DEC_MORSE. -/

/-- Every element string stands in at most one row (R196). -/
theorem morseTable_find?_code {row : MorseRow} (hrow : row ∈ morseTable) :
    morseTable.find? (fun r => r.code == row.code) = some row := by
  revert row
  decide

theorem morseLookup_overflow (bits : BitVec 7) : morseLookup 7 bits = 0x3F := if_pos rfl

theorem morseLookup_row {len : Nat} {bits : BitVec 7} {row : MorseRow} (hlen : len ≠ 7) (hrow : row ∈ morseTable)
    (hcode : row.code = codeElements len bits) : morseLookup len bits = row.char := by
  rw [morseLookup, if_neg hlen, Params.plcphy_morseTable, ← hcode, morseTable_find?_code hrow]

theorem morseLookup_unknown {len : Nat} {bits : BitVec 7} (hno : ∀ row ∈ morseTable, row.code ≠ codeElements len bits) :
    morseLookup len bits = 0x3F := by
  have hfind : morseTable.find? (fun r => r.code == codeElements len bits) = none :=
    List.find?_eq_none.2 fun row hrow => by simpa using hno row hrow
  rw [morseLookup, Params.plcphy_morseTable, hfind, ite_self]

namespace MorseRegs

variable {r : MorseRegs}

theorem parse_cons_carrier (hy : Num.gt y thr = true) (ys : List REAL) :
    parse thr (y :: ys) r = ((parse thr ys r.carrier.1).1, r.carrier.2 ++ (parse thr ys r.carrier.1).2) := by
  have hy' : Params.plcphy.num.gt y thr = true := hy
  simp only [parse, hy', if_true]

theorem parse_cons_silence (hy : Num.gt y thr = false) (ys : List REAL) :
    parse thr (y :: ys) r = ((parse thr ys r.silence.1).1, r.silence.2 ++ (parse thr ys r.silence.1).2) := by
  have hy' : Params.plcphy.num.gt y thr = false := hy
  simp only [parse, hy', Bool.false_eq_true, if_false]

/-- No chunk boundary matters: the registers carry all that the samples before left (R197). -/
theorem parse_append (thr : REAL) (xs ys : List REAL) (r : MorseRegs) :
    parse thr (xs ++ ys) r =
      ((parse thr ys (parse thr xs r).1).1, (parse thr xs r).2 ++ (parse thr ys (parse thr xs r).1).2) := by
  induction xs generalizing r with
  | nil => rfl
  | cons x xs ih =>
    rw [List.cons_append]
    cases hx : Num.gt x thr with
    | true => simp only [parse_cons_carrier hx, ih, List.append_assoc]
    | false => simp only [parse_cons_silence hx, ih, List.append_assoc]

/-- A run that goes on is counted. -/
theorem parse_carriers_on (hw : 0 < r.w.toNat) (hon : ∀ y ∈ on, Num.gt y thr = true)
    (hlen : r.w.toNat + on.length < 2 ^ 64) :
    parse thr on r = ({ r with w := r.w + BitVec.ofNat 64 on.length }, []) := by
  induction on generalizing r with
  | nil => simp [parse]
  | cons y on ih =>
    rw [List.length_cons] at hlen
    obtain ⟨hinc, hnat⟩ := satInc_of_lt (x := r.w) (by omega)
    obtain ⟨hy, hon⟩ := List.forall_mem_cons.1 hon
    have hcar : r.carrier = ({ r with w := r.w + 1 }, []) := by
      rw [carrier, if_neg (fun h => by simp [h] at hw), hinc]
    rw [parse_cons_carrier hy, hcar, ih (by simp only; omega) hon (by simp only; omega), add_one_add_ofNat]
    rfl

/-- A run that begins ends the gap before it: with a space, if that gap was a word's (R198). -/
theorem parse_carriers (hw : r.w = 0) (hon : ∀ y ∈ on, Num.gt y thr = true) (hpos : 0 < on.length)
    (hlt : on.length < 2 ^ 64) :
    parse thr on r = ({ r with w := BitVec.ofNat 64 on.length, wo := 0 },
      if r.hadChar = true ∧ r.tWord.toNat ≤ r.wo.toNat then [0x20] else []) := by
  obtain ⟨y, on, rfl⟩ := List.exists_cons_of_length_pos hpos
  obtain ⟨hy, hon⟩ := List.forall_mem_cons.1 hon
  rw [List.length_cons] at hlt
  have hcar : r.carrier = ({ r with w := 1, wo := 0 },
      if r.hadChar = true ∧ r.tWord.toNat ≤ r.wo.toNat then [0x20] else []) := by
    have hone : satInc 0 = 1 := by decide
    rw [carrier, if_pos hw, hw, hone]
    simp
  have hone : ((1 : BitVec 64)).toNat = 1 := rfl
  rw [parse_cons_carrier hy, hcar, parse_carriers_on (by simp only [hone, Nat.one_pos]) hon (by simp only [hone]; omega)]
  simp only [List.append_nil, List.length_cons, one_add_ofNat]

/-- The element register with one more element (R197). -/
theorem append_of_lt (h : r.codeLen < 6) (e : Bool) : (r.append e).codeLen = r.codeLen + 1 ∧
    codeElements (r.append e).codeLen (r.append e).codeBits = codeElements r.codeLen r.codeBits ++ [e] := by
  have happ : r.append e = { r with
      codeBits := (r.codeBits &&& ~~~(1#7 <<< r.codeLen)) ||| (if e then 1#7 <<< r.codeLen else 0#7),
      codeLen := r.codeLen + 1 } := if_pos h
  have hlen : (r.append e).codeLen = r.codeLen + 1 := congrArg codeLen happ
  have hbit : ∀ k < 7, (r.append e).codeBits.getLsbD k = if k = r.codeLen then e else r.codeBits.getLsbD k := by
    intro k hk
    rw [happ, ← BitVec.twoPow_eq]
    by_cases hlast : k = r.codeLen
    · cases e <;> simp [hlast, show r.codeLen < 7 by omega]
    · cases e <;> simp [hk, hlast]
  refine ⟨hlen, ?_⟩
  rw [hlen, codeElements, List.range_succ, List.map_append, List.map_singleton, hbit _ (by omega), if_pos rfl, codeElements]
  refine congrArg (· ++ [e]) (List.map_congr_left fun k hk => ?_)
  have hk := List.mem_range.1 hk
  rw [hbit k (by omega), if_neg (Nat.ne_of_lt hk)]

/-- A seventh element overflows (R197). -/
theorem append_of_ge (h : 6 ≤ r.codeLen) (e : Bool) : (r.append e).codeLen = 7 :=
  congrArg codeLen (if_neg (Nat.not_lt.2 h) : r.append e = { r with codeLen := 7 })

/-- The registers `q` hold the elements of `r` and one more, or an overflow. -/
def Appended (r q : MorseRegs) (e : Bool) : Prop :=
  (r.codeLen < 6 → q.codeLen = r.codeLen + 1 ∧
    codeElements q.codeLen q.codeBits = codeElements r.codeLen r.codeBits ++ [e]) ∧
  (6 ≤ r.codeLen → q.codeLen = 7)

theorem appended_append (r : MorseRegs) (e : Bool) : Appended r (r.append e) e :=
  ⟨fun h => append_of_lt h e, fun h => append_of_ge h e⟩

/-- An element touches the code register only. -/
theorem confirm_frame (r : MorseRegs) : { r.confirm with codeLen := r.codeLen, codeBits := r.codeBits } = r := by
  unfold confirm append
  split
  · split <;> rfl
  · split
    · split <;> rfl
    · rfl

/-- The first sample without carrier ends the run and is the first of its gap; with more than one sample to a character's
gap it ends no character. -/
theorem silence_after_run (hw : 0 < r.w.toNat) (hchar : 1 < r.tChar.toNat) :
    r.silence = ({ r.confirm with w := 0, wo := 1 }, []) := by
  have hone : satInc 0 = 1 := by decide
  have hframe : r.confirm.tChar = r.tChar := (congrArg tChar r.confirm_frame :)
  have hne : (1 : BitVec 64) ≠ r.tChar := fun h => by
    rw [← h] at hchar
    exact absurd hchar (by decide)
  simp only [silence, if_pos hw, hone, hframe, hne, false_and, if_false]

/-- A gap that ends no character is counted. -/
theorem silence_waiting (hw : r.w = 0) (hwo : r.wo.toNat + 1 < 2 ^ 64)
    (hwait : r.codeLen = 0 ∨ r.wo.toNat + 1 ≠ r.tChar.toNat) : r.silence = ({ r with wo := r.wo + 1 }, []) := by
  obtain ⟨hinc, hnat⟩ := satInc_of_lt hwo
  have hno : ¬ (r.wo + 1 = r.tChar ∧ 0 < r.codeLen) := fun ⟨heq, hpos⟩ =>
    hwait.elim (by omega) fun hne => hne (hnat ▸ congrArg BitVec.toNat heq)
  have hw0 : ¬ 0 < r.w.toNat := by simp [hw]
  simp only [silence, if_neg hw0, hinc, if_neg hno]

/-- A gap that ends a character emits it (R196). -/
theorem silence_gap (hw : r.w = 0) (hpos : 0 < r.codeLen) (hgap : r.wo.toNat + 1 = r.tChar.toNat) :
    r.silence = ({ r with wo := r.tChar, codeLen := 0, codeBits := 0, hadChar := true },
      [morseLookup r.codeLen r.codeBits]) := by
  obtain ⟨hinc, hnat⟩ := satInc_of_lt (x := r.wo) (by omega)
  have heq : r.wo + 1 = r.tChar := BitVec.eq_of_toNat_eq (hnat.trans hgap)
  have hw0 : ¬ 0 < r.w.toNat := by simp [hw]
  simp only [silence, if_neg hw0, hinc, heq, true_and, if_pos hpos]

/-- A gap with no element pending emits nothing. -/
theorem parse_silence (hw : r.w = 0) (hcode : r.codeLen = 0) (hlen : r.wo.toNat + off.length < 2 ^ 64)
    (hoff : ∀ y ∈ off, Num.gt y thr = false) :
    parse thr off r = ({ r with wo := r.wo + BitVec.ofNat 64 off.length }, []) := by
  induction off generalizing r with
  | nil => simp [parse]
  | cons z off ih =>
    rw [List.length_cons] at hlen
    obtain ⟨hz, hoff⟩ := List.forall_mem_cons.1 hoff
    obtain ⟨-, hnat⟩ := satInc_of_lt (x := r.wo) (by omega)
    rw [parse_cons_silence hz, silence_waiting hw (by omega) (.inl hcode),
      ih (r := { r with wo := r.wo + 1 }) hw hcode (by simp only; omega) hoff, add_one_add_ofNat]
    rfl

/-- The sample that makes a gap a character's gap emits the character (R196). -/
theorem parse_gap (hw : r.w = 0) (hpos : 0 < r.codeLen) (hz : Num.gt z thr = false)
    (hoff : ∀ y ∈ off, Num.gt y thr = false) (hlen : r.wo.toNat + (off.length + 1) = r.tChar.toNat) :
    parse thr (z :: off) r = ({ r with wo := r.tChar, codeLen := 0, codeBits := 0, hadChar := true },
      [morseLookup r.codeLen r.codeBits]) := by
  induction off generalizing r z with
  | nil => rw [parse_cons_silence hz, silence_gap hw hpos hlen, parse, List.append_nil]
  | cons x off ih =>
    rw [List.length_cons] at hlen
    obtain ⟨hx, hoff⟩ := List.forall_mem_cons.1 hoff
    obtain ⟨-, hnat⟩ := satInc_of_lt (x := r.wo) (by omega)
    rw [parse_cons_silence hz, silence_waiting hw (by omega) (.inr (by omega)),
      ih (r := { r with wo := r.wo + 1 }) hw hpos hx hoff (by simp only; omega), List.nil_append]

/-- A run of carrier and the sample after it: a space for a word's gap before the run, and the run's element
(R197, R198). -/
theorem parse_run (hw : r.w = 0) (hchar : 1 < r.tChar.toNat) (hon : ∀ y ∈ on, Num.gt y thr = true)
    (hz : Num.gt z thr = false) (hpos : 0 < on.length) (hlt : on.length < 2 ^ 64) :
    parse thr (on ++ [z]) r =
      ({ ({ r with w := BitVec.ofNat 64 on.length, wo := 0 } : MorseRegs).confirm with w := 0, wo := 1 },
        if r.hadChar = true ∧ r.tWord.toNat ≤ r.wo.toNat then [0x20] else []) := by
  have hcount : 0 < (BitVec.ofNat 64 on.length).toNat := by
    rw [BitVec.toNat_ofNat, Nat.mod_eq_of_lt hlt]
    exact hpos
  have hrun := parse_carriers (thr := thr) hw hon hpos hlt
  have hend := silence_after_run (r := { r with w := BitVec.ofNat 64 on.length, wo := 0 }) hcount hchar
  rw [parse_append, hrun, parse_cons_silence hz, hend, parse, List.append_nil, List.append_nil]

/-- The element of a run: a dash, a dot, or noise (R197). -/
theorem confirm_element (r : MorseRegs) :
    (r.tDash.toNat ≤ r.w.toNat → Appended r r.confirm true) ∧
    (r.w.toNat < r.tDash.toNat → r.tDot.toNat ≤ r.w.toNat → Appended r r.confirm false) ∧
    (r.w.toNat < r.tDash.toNat → r.w.toNat < r.tDot.toNat → r.confirm = r) := by
  refine ⟨fun hdash => ?_, fun hdash hdot => ?_, fun hdash hdot => ?_⟩
  · rw [confirm, if_pos hdash]
    exact appended_append r true
  · rw [confirm, if_neg (Nat.not_le.2 hdash), if_pos hdot]
    exact appended_append r false
  · rw [confirm, if_neg (Nat.not_le.2 hdash), if_neg (Nat.not_le.2 hdot)]

end MorseRegs

/-- Settles O34: a pulse, the chunk boundaries, and the runs and gaps of Morse code. -/
theorem pwmDecodesAPulse : Obligations.PwmDecodesAPulse := by
  refine ⟨fun thr sps r on off hw hconfirm hon hoff hpos hlt hlen => PwmRegs.parse_pulse hw hconfirm hon hoff hpos hlt hlen,
    fun thr sps r xs ys => PwmRegs.parse_append thr sps xs ys r, fun thr r xs ys => MorseRegs.parse_append thr xs ys r,
    fun thr r on z hw hchar hon hz hpos hlt => ?run,
    fun thr r off hw hpos hgap hoff hlen => ?gap,
    fun thr r off hw hcode hlen hoff => MorseRegs.parse_silence hw hcode hlen hoff⟩
  case run =>
    have hcount : (BitVec.ofNat 64 on.length).toNat = on.length := Nat.mod_eq_of_lt hlt
    obtain ⟨hdash, hdot, hnoise⟩ :=
      MorseRegs.confirm_element { r with w := BitVec.ofNat 64 on.length, wo := 0 }
    have hframe := MorseRegs.confirm_frame { r with w := BitVec.ofNat 64 on.length, wo := 0 }
    simp only [hcount] at hdash hdot hnoise
    refine ⟨_, MorseRegs.parse_run hw hchar hon hz hpos hlt, rfl, rfl, ?_, hdash, hdot, fun h1 h2 => ?_⟩
    · exact congrArg (fun q : MorseRegs => { q with w := r.w, wo := r.wo }) hframe
    · rw [hnoise h1 h2]
      exact ⟨rfl, rfl⟩
  case gap =>
    obtain ⟨z, off, rfl⟩ := List.exists_cons_of_length_pos (l := off) (by omega)
    obtain ⟨hz, hoff⟩ := List.forall_mem_cons.1 hoff
    rw [List.length_cons] at hlen
    refine ⟨_, MorseRegs.parse_gap hw hpos hz hoff (by omega), fun hlen row hrow hcode => morseLookup_row hlen hrow hcode,
      fun h => ?_⟩
    rcases h with hover | hno
    · rw [hover]
      exact morseLookup_overflow _
    · exact morseLookup_unknown hno

end Sys2Proof.Machine
end

section
/-! The OOK decoder, one output at a time (42_decoders.md R177 to R184). The loop of R182 goes from instant to instant over
a whole chunk. `OokRegs.step` says what one output does to registers whose cursor counts from that output; the loop over a
chunk is these steps in order (`parse_feed`), so no chunk boundary can matter. -/

namespace Sys2Proof.Machine

namespace OokRegs

variable {thr : REAL} {sps i j k n fuel : Nat} {r q : OokRegs} {on ys zs : List REAL} {y z : REAL} {out pre : List Byte}

/-! The registers seen from an index. -/

/-- The registers with the cursor counted from index `k`; outside DATA, where the cursor is stale, it is 0. -/
def rebase (r : OokRegs) (k : Nat) : OokRegs :=
  { r with posMag := if r.phase = .data then r.posMag - (k : Int) * 1000000 else 0 }

@[simp] theorem rebase_phase (r : OokRegs) (k : Nat) : (r.rebase k).phase = r.phase := rfl

@[simp] theorem rebase_n75 (r : OokRegs) (k : Nat) : (r.rebase k).n75 = r.n75 := rfl

@[simp] theorem rebase_run (r : OokRegs) (k : Nat) : (r.rebase k).run = r.run := rfl

theorem rebase_posMag (h : r.phase = .data) (k : Nat) : (r.rebase k).posMag = r.posMag - (k : Int) * 1000000 := if_pos h

theorem rebase_of_data (h : r.phase = .data) (k : Nat) :
    r.rebase k = { r with posMag := r.posMag - (k : Int) * 1000000 } := by
  rw [rebase, if_pos h]

theorem rebase_of_stale (h : r.phase ≠ .data) (k : Nat) : r.rebase k = { r with posMag := 0 } := by
  rw [rebase, if_neg h]

@[simp] theorem rebase_rebase (r : OokRegs) (j k : Nat) : (r.rebase j).rebase k = r.rebase (j + k) := by
  by_cases h : r.phase = .data
  · have h' : (r.rebase j).phase = .data := h
    rw [rebase_of_data h', rebase_of_data h, rebase_of_data h, Nat.cast_add, add_mul, sub_sub]
  · have h' : (r.rebase j).phase ≠ .data := h
    rw [rebase_of_stale h', rebase_of_stale h, rebase_of_stale h]

theorem rebase_zero_of_data (h : r.phase = .data) : r.rebase 0 = r := by
  rw [rebase_of_data h, Nat.cast_zero, zero_mul, sub_zero]

/-- Two decoders are alike when they are the same but for a stale cursor. -/
theorem alike_iff : r.Alike q ↔ r.rebase 0 = q.rebase 0 := by
  constructor
  · rintro ⟨hrest, hpos⟩
    have hphase : r.phase = q.phase := (congrArg phase hrest :)
    by_cases hq : q.phase = .data
    · have hr : r.posMag = q.posMag := hpos hq
      rw [rebase_zero_of_data hq, rebase_zero_of_data (hphase.trans hq), ← hrest, ← hr]
    · have hr : r.phase ≠ .data := by rwa [hphase]
      rw [← hrest, rebase_of_stale hr, rebase_of_stale (r := { r with posMag := q.posMag }) hr]
  · intro h
    have hphase : r.phase = q.phase := (congrArg phase h :)
    by_cases hq : q.phase = .data
    · rw [rebase_zero_of_data hq, rebase_zero_of_data (hphase.trans hq)] at h
      subst h
      exact ⟨rfl, fun _ => rfl⟩
    · rw [rebase_of_stale hq, rebase_of_stale (by rwa [hphase])] at h
      exact ⟨(congrArg (fun x : OokRegs => { x with posMag := q.posMag }) h :), fun hd => absurd hd hq⟩

/-! Consistent registers. -/

namespace Consistent

/-- A symbol has at least one sample, a start run at least one output, and the first instant of a frame is after the
output that ends the run. -/
theorem bounds (h : r.Consistent sps) :
    1000000 ≤ sps ∧ 0 < r.n75.toNat ∧ r.n75.toNat * 1000000 ≤ 3 * sps / 2 := by
  have hrate : 1000000 ≤ sps := h.rate
  have hstart : r.n75.toNat = max 1 (3 * sps / 4000000) := h.start
  omega

/-- What is consistent is the length of a start run, and a cursor that is not negative. -/
theorem of_n75 (h : r.Consistent sps) (hn : q.n75 = r.n75) (hpos : q.phase = .data → 0 ≤ q.posMag) : q.Consistent sps :=
  ⟨h.rate, h.limit, hn ▸ h.start, hpos⟩

theorem of_phase (h : r.Consistent sps) (hn : q.n75 = r.n75) (hphase : q.phase ≠ .data) : q.Consistent sps :=
  h.of_n75 hn fun hd => absurd hd hphase

end Consistent

theorem consistent_rebase_zero : (r.rebase 0).Consistent sps ↔ r.Consistent sps := by
  have hcur : r.phase = .data → (r.rebase 0).posMag = r.posMag := fun hd => by rw [rebase_zero_of_data hd]
  exact ⟨fun h => h.of_n75 rfl fun hd => (hcur hd).subst (motive := (0 ≤ ·)) (h.cursor hd),
    fun h => h.of_n75 rfl fun hd => (hcur hd).symm.subst (motive := (0 ≤ ·)) (h.cursor hd)⟩

/-! One output. -/

/-- The registers when the output at index `i` ends a start run (R178). -/
def frameAt (r : OokRegs) (sps i : Nat) : OokRegs :=
  { r with posMag := ((i : Int) + 1 - (r.n75.toNat : Int)) * 1000000 + ((3 * sps / 2 : Nat) : Int),
           phase := .data, bitcnt := 0, datum := 0, datacnt := 0, run := 0 }

/-- The registers after the last bit of a datum, which may be the last of its frame (R179). -/
def endDatum (r : OokRegs) : OokRegs :=
  if r.datacnt + 1 = r.dpf then
    { r with datum := 0, bitcnt := 0, datacnt := r.datacnt + 1, phase := .waitIdle, run := 0 }
  else { r with datum := 0, bitcnt := 0, datacnt := r.datacnt + 1 }

/-- One data symbol (R179): the registers and the byte emitted, if any. -/
def symbol (r : OokRegs) (sps : Nat) (bit : Bool) : OokRegs × List Byte :=
  let r1 := r.sampleBit sps bit
  if r1.bitcnt = r1.bpd then (r1.endDatum, [r1.datum]) else (r1, [])

/-- One output, which has carrier or has none, seen from its own index. -/
def step (r : OokRegs) (sps : Nat) (carrier : Bool) : OokRegs × List Byte :=
  match r.phase with
  | .search =>
    let run := if carrier then satInc r.run else 0
    if run.toNat = r.n75.toNat then ((r.frameAt sps 0).rebase 1, []) else ({ r with run := run }, [])
  | .data =>
    if r.posMag < 1000000 then ((r.symbol sps carrier).1.rebase 1, (r.symbol sps carrier).2) else (r.rebase 1, [])
  | .waitIdle => (if carrier then r else { r with phase := .search, run := 0 }, [])

/-- The outputs in order, from the registers `r` after the bytes `out`. -/
def feed (thr : REAL) (sps : Nat) : List REAL → OokRegs → List Byte → OokRegs × List Byte
  | [], r, out => (r, out)
  | y :: ys, r, out => feed thr sps ys (r.step sps (Num.gt y thr)).1 (out ++ (r.step sps (Num.gt y thr)).2)

theorem feed_append (thr : REAL) (sps : Nat) (xs ys : List REAL) (r : OokRegs) (out : List Byte) :
    feed thr sps (xs ++ ys) r out = feed thr sps ys (feed thr sps xs r out).1 (feed thr sps xs r out).2 := by
  induction xs generalizing r out with
  | nil => rfl
  | cons x xs ih => exact ih ..

/-- The bytes emitted before are neither read nor changed. -/
theorem feed_after (thr : REAL) (sps : Nat) (ys : List REAL) (r : OokRegs) (pre out : List Byte) :
    feed thr sps ys r (pre ++ out) = ((feed thr sps ys r out).1, pre ++ (feed thr sps ys r out).2) := by
  induction ys generalizing r out with
  | nil => rfl
  | cons y ys ih => rw [feed, feed, List.append_assoc, ih]

theorem feed_cons_of_step {c : Bool} (hy : Num.gt y thr = c) (hstep : r.step sps c = (q, [])) :
    feed thr sps (y :: ys) r out = feed thr sps ys q out := by
  rw [feed, hy, hstep, List.append_nil]

/-! What one output does in each phase. -/

theorem step_search (h : r.phase = .search) (c : Bool) :
    r.step sps c =
      if (if c then satInc r.run else 0).toNat = r.n75.toNat then ((r.frameAt sps 0).rebase 1, [])
      else ({ r with run := if c then satInc r.run else 0 }, []) := by
  simp only [step, h]

theorem step_search_silence (h : r.phase = .search) (hn : 0 < r.n75.toNat) :
    r.step sps false = ({ r with run := 0 }, []) :=
  (step_search h false).trans (if_neg (Nat.ne_of_lt hn))

theorem step_search_carrier (h : r.phase = .search) (hrun : r.run.toNat + 1 < r.n75.toNat) :
    r.step sps true = ({ r with run := r.run + 1 }, []) := by
  obtain ⟨hinc, hnat⟩ := satInc_of_lt (x := r.run) (by omega)
  rw [step_search h, if_pos rfl, hinc, if_neg (by omega)]

theorem step_search_start (h : r.phase = .search) (hrun : r.run.toNat + 1 = r.n75.toNat) :
    r.step sps true = ((r.frameAt sps 0).rebase 1, []) := by
  obtain ⟨hinc, hnat⟩ := satInc_of_lt (x := r.run) (by omega)
  rw [step_search h, if_pos rfl, hinc, if_pos (by omega)]

theorem step_data_before (h : r.phase = .data) (hpos : 1000000 ≤ r.posMag) (c : Bool) :
    r.step sps c = (r.rebase 1, []) := by
  simp only [step, h, if_neg (Int.not_lt.2 hpos)]

theorem step_data_instant (h : r.phase = .data) (hpos : r.posMag < 1000000) (c : Bool) :
    r.step sps c = ((r.symbol sps c).1.rebase 1, (r.symbol sps c).2) := by
  simp only [step, h, if_pos hpos]

theorem step_waitIdle (h : r.phase = .waitIdle) (c : Bool) :
    r.step sps c = (if c then r else { r with phase := .search, run := 0 }, []) := by
  simp only [step, h]

/-! The start of a frame. -/

/-- Which index the start is counted from does not matter. -/
theorem frameAt_rebase (r : OokRegs) (sps i j k : Nat) :
    (r.frameAt sps i).rebase (i + k) = (r.frameAt sps j).rebase (j + k) := by
  rw [rebase_of_data rfl, rebase_of_data rfl]
  simp only [frameAt, OokRegs.mk.injEq, true_and, and_true]
  omega

theorem frameAt_consistent (h : r.Consistent sps) (i : Nat) : ((r.frameAt sps i).rebase (i + 1)).Consistent sps := by
  obtain ⟨-, -, hstart⟩ := h.bounds
  refine h.of_n75 rfl fun _ => ?_
  rw [rebase_posMag rfl]
  simp only [frameAt]
  omega

/-! A data symbol. -/

theorem endDatum_last (h : r.datacnt + 1 = r.dpf) : r.endDatum =
    { r with datum := 0, bitcnt := 0, datacnt := r.datacnt + 1, phase := .waitIdle, run := 0 } := if_pos h

theorem endDatum_next (h : r.datacnt + 1 ≠ r.dpf) : r.endDatum =
    { r with datum := 0, bitcnt := 0, datacnt := r.datacnt + 1 } := if_neg h

theorem symbol_last (h : r.bitcnt + 1 = r.bpd) (sps : Nat) (c : Bool) :
    r.symbol sps c = ((r.sampleBit sps c).endDatum, [(r.sampleBit sps c).datum]) := if_pos h

theorem symbol_next (h : r.bitcnt + 1 ≠ r.bpd) (sps : Nat) (c : Bool) : r.symbol sps c = (r.sampleBit sps c, []) := if_neg h

theorem endDatum_posMag (r : OokRegs) : r.endDatum.posMag = r.posMag := by
  unfold endDatum
  split <;> rfl

theorem symbol_posMag (r : OokRegs) (sps : Nat) (c : Bool) : (r.symbol sps c).1.posMag = r.posMag + sps := by
  unfold symbol
  dsimp only
  split
  · rw [endDatum_posMag, sampleBit]
  · rfl

theorem symbol_n75 (r : OokRegs) (sps : Nat) (c : Bool) : (r.symbol sps c).1.n75 = r.n75 := by
  unfold symbol endDatum
  dsimp only
  split
  · split <;> rfl
  · rfl

/-- A symbol goes on from the index it is seen from. -/
theorem symbol_rebase (h : r.phase = .data) (c : Bool) (j k : Nat) :
    ((r.rebase j).symbol sps c).1.rebase k = (r.symbol sps c).1.rebase (j + k) ∧
      ((r.rebase j).symbol sps c).2 = (r.symbol sps c).2 := by
  have hcursor : r.posMag - (j : Int) * 1000000 + sps - (k : Int) * 1000000 =
      r.posMag + sps - ((j + k : Nat) : Int) * 1000000 := by push_cast; ring
  rw [rebase_of_data h]
  unfold symbol endDatum
  dsimp only [sampleBit]
  split
  · refine ⟨?_, rfl⟩
    split
    · simp only [rebase, reduceCtorEq, if_false]
    · simp only [rebase, h, if_true, hcursor]
  · simp only [rebase, h, if_true, hcursor, and_self]

/-! Several outputs in each phase. -/

/-- In DATA nothing happens before the cursor. -/
theorem feed_data_before (h : r.phase = .data) (hk : k ≤ zs.length) (hpos : (k : Int) * 1000000 ≤ r.posMag) :
    feed thr sps zs r out = feed thr sps (zs.drop k) (r.rebase k) out := by
  induction k generalizing zs r with
  | zero => rw [rebase_zero_of_data h, List.drop_zero]
  | succ k ih =>
    obtain ⟨z, zs, rfl⟩ := List.exists_cons_of_length_pos (Nat.zero_lt_of_lt hk)
    have hcur : ((k : Int)) * 1000000 ≤ (r.rebase 1).posMag := by
      rw [rebase_posMag h]
      push_cast at hpos ⊢
      omega
    rw [feed_cons_of_step rfl (step_data_before h (by push_cast at hpos; omega) _),
      ih (r := r.rebase 1) h (Nat.le_of_succ_le_succ hk) hcur, rebase_rebase, List.drop_succ_cons, Nat.add_comm]

/-- The next instant of DATA, wherever the registers are seen from. -/
theorem feed_instant (h : r.phase = .data) (hpos : (i : Int) * 1000000 ≤ r.posMag)
    (hidx : (r.posMag / 1000000).toNat < ys.length) :
    let idx := (r.posMag / 1000000).toNat
    let x := r.symbol sps (Num.gt (ys.getD idx 0) thr)
    feed thr sps (ys.drop i) (r.rebase i) out = feed thr sps (ys.drop (idx + 1)) (x.1.rebase (idx + 1)) (out ++ x.2) := by
  intro idx x
  have hle : i ≤ idx := by omega
  have hskip := feed_data_before (thr := thr) (sps := sps) (out := out) (zs := ys.drop i) (k := idx - i)
    (r := r.rebase i) h (by rw [List.length_drop]; omega) (by rw [rebase_posMag h]; omega)
  have hcur : (r.rebase idx).posMag < 1000000 := by
    rw [rebase_posMag h]
    omega
  obtain ⟨hregs, hbyte⟩ := symbol_rebase (sps := sps) h (Num.gt (ys.getD idx 0) thr) idx 1
  rw [hskip, rebase_rebase, List.drop_drop, Nat.add_sub_cancel' hle, List.drop_eq_getElem_cons hidx, feed,
    ← List.getD_eq_getElem _ 0 hidx, step_data_instant (r := r.rebase idx) h hcur, hregs, hbyte]

/-- A start run that is too short goes on. -/
theorem feed_search_carriers (h : r.phase = .search) (hon : ∀ y ∈ on, Num.gt y thr = true)
    (hrun : on ≠ [] → r.run.toNat + on.length < r.n75.toNat) :
    feed thr sps (on ++ zs) r out = feed thr sps zs { r with run := r.run + BitVec.ofNat 64 on.length } out := by
  induction on generalizing r with
  | nil => rw [List.nil_append, List.length_nil, BitVec.add_zero]
  | cons y on ih =>
    have hrun := hrun (List.cons_ne_nil _ _)
    rw [List.length_cons] at hrun
    obtain ⟨hy, hon⟩ := List.forall_mem_cons.1 hon
    obtain ⟨-, hnat⟩ := satInc_of_lt (x := r.run) (by omega)
    rw [List.cons_append, feed_cons_of_step hy (step_search_carrier h (by omega)),
      ih (r := { r with run := r.run + 1 }) h hon (fun _ => by simp only; omega), add_one_add_ofNat, List.length_cons]

/-- A start run that is long enough starts a frame (R178). -/
theorem feed_search_start (h : r.phase = .search) (hon : ∀ y ∈ on, Num.gt y thr = true) (hpos : 0 < on.length)
    (hrun : r.run.toNat + on.length = r.n75.toNat) :
    feed thr sps (on ++ zs) r out = feed thr sps zs ((r.frameAt sps 0).rebase 1) out := by
  induction on generalizing r with
  | nil => exact absurd hpos (Nat.lt_irrefl 0)
  | cons y on ih =>
    rw [List.length_cons] at hrun
    obtain ⟨hy, hon⟩ := List.forall_mem_cons.1 hon
    obtain ⟨-, hnat⟩ := satInc_of_lt (x := r.run) (by omega)
    rcases on.length.eq_zero_or_pos with hnil | hmore
    · rw [List.length_eq_zero_iff.1 hnil, List.cons_append, feed_cons_of_step hy (step_search_start h (by omega)),
        List.nil_append]
    · rw [List.cons_append, feed_cons_of_step hy (step_search_carrier h (by omega)),
        ih (r := { r with run := r.run + 1 }) h hon hmore (by simp only; omega)]
      rfl

/-- Outputs without carrier end a run that is too short (R178). -/
theorem feed_search_silence (h : r.phase = .search) (hn : 0 < r.n75.toNat) (hoff : ∀ y ∈ on, Num.gt y thr = false)
    (hne : on ≠ []) : feed thr sps (on ++ zs) r out = feed thr sps zs { r with run := 0 } out := by
  induction on generalizing r with
  | nil => exact absurd rfl hne
  | cons y on ih =>
    obtain ⟨hy, hoff⟩ := List.forall_mem_cons.1 hoff
    rw [List.cons_append, feed_cons_of_step hy (step_search_silence h hn)]
    rcases eq_or_ne on [] with rfl | hne
    · rfl
    · exact ih (r := { r with run := 0 }) h hn hoff hne

/-- WAIT_IDLE skips outputs with carrier (R180). -/
theorem feed_waitIdle_carriers (h : r.phase = .waitIdle) (hon : ∀ y ∈ on, Num.gt y thr = true) :
    feed thr sps (on ++ zs) r out = feed thr sps zs r out := by
  induction on with
  | nil => rfl
  | cons y on ih =>
    obtain ⟨hy, hon⟩ := List.forall_mem_cons.1 hon
    rw [List.cons_append, feed_cons_of_step hy (step_waitIdle h true)]
    exact ih hon

/-- WAIT_IDLE ends with an output without carrier (R180). -/
theorem feed_waitIdle_silence (h : r.phase = .waitIdle) (hz : Num.gt z thr = false) :
    feed thr sps (z :: zs) r out = feed thr sps zs { r with phase := .search, run := 0 } out :=
  feed_cons_of_step hz (step_waitIdle h false)

end OokRegs
end Sys2Proof.Machine
end

section
/-! The loop of R182 is the steps of the outputs in order (42_decoders.md R178 to R184): each of its passes, and the loop. -/

namespace Sys2Proof.Machine

namespace OokRegs

variable {thr : REAL} {sps i j k n fuel : Nat} {r q : OokRegs} {on ys zs : List REAL} {y z : REAL} {out pre : List Byte}

theorem mag_cast : ((Config.mag : Nat) : Int) = 1000000 := rfl

/-! One pass. -/

theorem search_cons_start (hrun : (if Num.gt y thr then satInc r.run else 0).toNat = r.n75.toNat) :
    search thr sps (y :: ys) i r = (r.frameAt sps i, i) := by
  simp only [search, Params.plcphy_gt, mag_cast, frameAt]
  exact if_pos hrun

theorem search_cons_on (hrun : (if Num.gt y thr then satInc r.run else 0).toNat ≠ r.n75.toNat) :
    search thr sps (y :: ys) i r =
      search thr sps ys (i + 1) { r with run := if Num.gt y thr then satInc r.run else 0 } := by
  simp only [search, Params.plcphy_gt]
  exact if_neg hrun

/-- SEARCH goes on to the chunk's end, or starts a frame at the output with index `i + j` (R178). -/
theorem search_cases (h : r.phase = .search) (thr : REAL) (sps i : Nat) (zs : List REAL) (out : List Byte) :
    ((search thr sps zs i r).1.phase = .search ∧
      feed thr sps zs (r.rebase i) out = ((search thr sps zs i r).1.rebase 0, out)) ∨
    ∃ j < zs.length, search thr sps zs i r = (r.frameAt sps (i + j), i + j) ∧
      feed thr sps zs (r.rebase i) out =
        feed thr sps (zs.drop (j + 1)) ((r.frameAt sps (i + j)).rebase (i + j + 1)) out := by
  have hstale : r.phase ≠ .data := by simp [h]
  induction zs generalizing i r with
  | nil => exact .inl ⟨h, by rw [feed, search, rebase_of_stale hstale, rebase_of_stale hstale]⟩
  | cons z zs ih =>
    by_cases hrun : (if Num.gt z thr then satInc r.run else 0).toNat = r.n75.toNat
    · have hstep : (r.rebase i).step sps (Num.gt z thr) = ((r.frameAt sps i).rebase (i + 1), []) := by
        rw [step_search (r := r.rebase i) h, rebase_run, rebase_n75, if_pos hrun, ← frameAt_rebase r sps 0 i 1]
        rfl
      exact .inr ⟨0, Nat.succ_pos _, search_cons_start hrun, feed_cons_of_step rfl hstep⟩
    · have hstep : (r.rebase i).step sps (Num.gt z thr) =
          ({ r with run := if Num.gt z thr then satInc r.run else 0 }.rebase (i + 1), []) := by
        rw [step_search (r := r.rebase i) h, rebase_run, rebase_n75, if_neg hrun, rebase_of_stale hstale,
          rebase_of_stale (r := { r with run := if Num.gt z thr then satInc r.run else 0 }) hstale]
      rw [search_cons_on hrun, feed_cons_of_step rfl hstep]
      rcases ih (r := { r with run := if Num.gt z thr then satInc r.run else 0 }) h (i + 1) hstale with
        hend | ⟨j, hj, hs, hf⟩
      · exact .inl hend
      · refine .inr ⟨j + 1, Nat.succ_lt_succ hj, ?_, ?_⟩
        · rw [hs, Nat.add_right_comm, Nat.add_assoc]
          rfl
        · rw [hf, List.drop_succ_cons, Nat.add_right_comm i 1 j, ← Nat.add_assoc i j 1]
          rfl

/-- WAIT_IDLE goes on to the chunk's end, or to the output with index `i + j`, which SEARCH reads next (R180). -/
theorem skipCarrier_cases (h : r.phase = .waitIdle) (hn : 0 < r.n75.toNat) (thr : REAL) (sps i : Nat) (zs : List REAL)
    (out : List Byte) :
    (skipCarrier thr zs i = i + zs.length ∧ feed thr sps zs r out = (r, out)) ∨
    ∃ j < zs.length, skipCarrier thr zs i = i + j ∧
      feed thr sps zs r out = feed thr sps (zs.drop j) { r with phase := .search, run := 0 } out := by
  induction zs generalizing i with
  | nil => exact .inl ⟨rfl, rfl⟩
  | cons z zs ih =>
    cases hz : Num.gt z thr with
    | false =>
      refine .inr ⟨0, Nat.succ_pos _, ?_, ?_⟩
      · simp only [skipCarrier, Params.plcphy_gt, hz, Bool.false_eq_true, if_false, Nat.add_zero]
      · rw [feed_waitIdle_silence h hz, List.drop_zero,
          feed_cons_of_step hz (step_search_silence (r := { r with phase := .search, run := 0 }) rfl hn)]
    | true =>
      have hskip : skipCarrier thr (z :: zs) i = skipCarrier thr zs (i + 1) := by
        simp only [skipCarrier, Params.plcphy_gt, hz, if_true]
      rw [hskip, feed_cons_of_step hz (step_waitIdle h true)]
      rcases ih (i + 1) with ⟨hs, hf⟩ | ⟨j, hj, hs, hf⟩
      · exact .inl ⟨by rw [hs, List.length_cons]; omega, hf⟩
      · exact .inr ⟨j + 1, Nat.succ_lt_succ hj, by omega, hf⟩

theorem parse_search (h : r.phase = .search) :
    parse thr sps ys (fuel + 1) i r out =
      if (search thr sps (ys.drop i) i r).1.phase = .search then ((search thr sps (ys.drop i) i r).1, out)
      else parse thr sps ys fuel (search thr sps (ys.drop i) i r).2 (search thr sps (ys.drop i) i r).1 out := by
  rw [parse, h]

theorem parse_waitIdle (h : r.phase = .waitIdle) :
    parse thr sps ys (fuel + 1) i r out =
      if ys.length ≤ skipCarrier thr (ys.drop i) i then (r, out)
      else parse thr sps ys fuel (skipCarrier thr (ys.drop i) i) { r with phase := .search, run := 0 } out := by
  rw [parse, h]

/-- DATA does not read the index of the pass. -/
theorem parse_data_index (h : r.phase = .data) (i j : Nat) :
    parse thr sps ys fuel i r out = parse thr sps ys fuel j r out := by
  induction fuel generalizing r out with
  | zero => rfl
  | succ fuel ih =>
    simp only [parse, h]
    split
    · rfl
    · split
      · split
        · rfl
        · exact ih h
      · exact ih h

/-- DATA when the chunk ends before the next instant (R183). -/
theorem parse_data_end (h : r.phase = .data) (hidx : (ys.length : Int) ≤ r.posMag / 1000000) :
    parse thr sps ys (fuel + 1) i r out = (r.rebase ys.length, out) := by
  rw [parse, h, rebase_of_data h]
  simp only [mag_cast, ge_iff_le, if_pos hidx, h]

/-- DATA at the next instant (R179). -/
theorem parse_data_instant (h : r.phase = .data) (hidx : r.posMag / 1000000 < ys.length) :
    let idx := (r.posMag / 1000000).toNat
    let x := r.symbol sps (Num.gt (ys.getD idx 0) thr)
    parse thr sps ys (fuel + 1) i r out = parse thr sps ys fuel (idx + 1) x.1 (out ++ x.2) := by
  intro idx x
  let r1 := r.sampleBit sps (Num.gt (ys.getD idx 0) thr)
  have hpass : parse thr sps ys (fuel + 1) i r out =
      if r1.bitcnt = r1.bpd then
        if r1.datacnt + 1 = r1.dpf then parse thr sps ys fuel (idx + 1)
          { r1 with datum := 0, bitcnt := 0, datacnt := r1.datacnt + 1, phase := .waitIdle, run := 0 } (out ++ [r1.datum])
        else parse thr sps ys fuel i { r1 with datum := 0, bitcnt := 0, datacnt := r1.datacnt + 1 } (out ++ [r1.datum])
      else parse thr sps ys fuel i r1 out := by
    simp only [parse, h, mag_cast, ge_iff_le, if_neg (Int.not_le.2 hidx)]
    rfl
  have hx : x = r.symbol sps (Num.gt (ys.getD idx 0) thr) := rfl
  rw [hpass, hx]
  by_cases hbit : r1.bitcnt = r1.bpd
  · rw [if_pos hbit, symbol_last (r := r) hbit]
    by_cases hdatum : r1.datacnt + 1 = r1.dpf
    · rw [if_pos hdatum, endDatum_last hdatum]
    · rw [if_neg hdatum, endDatum_next hdatum]
      exact parse_data_index (by exact h) i (idx + 1)
  · rw [if_neg hbit, symbol_next (r := r) hbit, List.append_nil]
    exact parse_data_index (by exact h) i (idx + 1)

/-- The next instant is at least one output after this one. -/
theorem symbol_consistent (hr : (r.rebase i).Consistent sps) (hpos : 0 ≤ r.posMag) (c : Bool) :
    ((r.symbol sps c).1.rebase ((r.posMag / 1000000).toNat + 1)).Consistent sps := by
  obtain ⟨hsps, -, -⟩ := hr.bounds
  refine hr.of_n75 (symbol_n75 ..) fun hd => ?_
  rw [rebase_posMag (r := (r.symbol sps c).1) hd, symbol_posMag]
  omega

/-! The loop. -/

/-- The outcome of a chunk, with the stale cursor cleared. -/
def settled (p : OokRegs × List Byte) : OokRegs × List Byte := (p.1.rebase 0, p.2)

/-- The loop of R182 from the index `i` is the steps of the outputs from there, in order. A pass returns, or moves `i` on, or
ends WAIT_IDLE, so two passes for each output and two more suffice. -/
theorem parse_feed (hr : (r.rebase i).Consistent sps) (hi : i ≤ ys.length)
    (hfuel : 2 * (ys.length - i) + (if r.phase = .waitIdle then 2 else 1) ≤ fuel) :
    settled (parse thr sps ys fuel i r out) = feed thr sps (ys.drop i) (r.rebase i) out := by
  induction fuel generalizing i r out with
  | zero => split at hfuel <;> omega
  | succ fuel ih =>
    cases h : r.phase with
    | search =>
      rw [h, if_neg (by decide)] at hfuel
      rw [parse_search h]
      rcases search_cases h thr sps i (ys.drop i) out with ⟨hphase, hfeed⟩ | ⟨j, hj, hfound, hfeed⟩
      · rw [if_pos hphase, hfeed, settled]
      · rw [List.length_drop] at hj
        rw [hfeed, hfound, if_neg (by simp [frameAt]), parse_data_index rfl (i + j) (i + j + 1),
          ih (frameAt_consistent (r := r) (hr.of_phase rfl (by simp [h])) (i + j)) (by omega) (by simp [frameAt]; omega),
          List.drop_drop]
        rfl
    | data =>
      rw [h, if_neg (by decide)] at hfuel
      have hcur : (i : Int) * 1000000 ≤ r.posMag := by
        have := hr.cursor h
        rw [rebase_posMag h] at this
        omega
      rcases lt_or_ge (r.posMag / 1000000) ys.length with hidx | hend
      · have hnext := symbol_consistent hr (by omega) (Num.gt (ys.getD (r.posMag / 1000000).toNat 0) thr)
        rw [parse_data_instant h hidx, feed_instant h hcur (by omega), ih hnext (by omega) (by split <;> omega)]
      · rw [parse_data_end h hend, settled, rebase_rebase, Nat.add_zero,
          feed_data_before (r := r.rebase i) (k := ys.length - i) h (by rw [List.length_drop])
            (by rw [rebase_posMag h]; omega),
          rebase_rebase, Nat.add_sub_cancel' hi, List.drop_drop, Nat.add_sub_cancel' hi, List.drop_length, feed]
    | waitIdle =>
      rw [h, if_pos rfl] at hfuel
      have hstale : r.phase ≠ .data := by simp [h]
      obtain ⟨-, hn, -⟩ := hr.bounds
      rw [parse_waitIdle h]
      rcases skipCarrier_cases (r := r.rebase i) h hn thr sps i (ys.drop i) out with
        ⟨hskip, hfeed⟩ | ⟨j, hj, hskip, hfeed⟩
      · rw [List.length_drop] at hskip
        rw [hfeed, hskip, if_pos (by omega), settled, rebase_of_stale hstale, rebase_of_stale hstale]
      · rw [List.length_drop] at hj
        have hback : ({ r with phase := .search, run := 0 } : OokRegs).rebase (i + j) =
            { r.rebase i with phase := .search, run := 0 } := by
          rw [rebase_of_stale hstale, rebase_of_stale (r := { r with phase := .search, run := 0 }) nofun]
        rw [hfeed, hskip, if_neg (by omega), List.drop_drop, ← hback]
        exact ih (hr.of_phase rfl nofun) (by omega) (by simp only [reduceCtorEq, if_false]; omega)

end OokRegs
end Sys2Proof.Machine
end

section
/-! What the OOK decoder makes of a stream (42_decoders.md R177 to R184): the data of a frame, broken start runs, waits, and
the boundaries of chunks. -/

namespace Sys2Proof.Machine

namespace OokRegs

variable {thr : REAL} {sps i j k m n : Nat} {r q : OokRegs} {on quiet rest xs ys zs : List REAL} {z : REAL} {p : Int}
  {out pre : List Byte}

/-! A chunk. -/

/-- A chunk from its first output, with the model's bound on the passes. -/
def decodeChunk (thr : REAL) (sps : Nat) (r : OokRegs) (ys : List REAL) : OokRegs × List Byte :=
  parse thr sps ys (3 * ys.length + 6) 0 r []

theorem settled_decodeChunk (hr : r.Consistent sps) (ys : List REAL) :
    settled (decodeChunk thr sps r ys) = feed thr sps ys (r.rebase 0) [] :=
  parse_feed (consistent_rebase_zero.2 hr) (Nat.zero_le _) (by split <;> omega)

theorem step_consistent (hr : r.Consistent sps) (c : Bool) : (r.step sps c).1.Consistent sps := by
  cases h : r.phase with
  | search =>
    rw [step_search h]
    by_cases hrun : (if c then satInc r.run else 0).toNat = r.n75.toNat
    · rw [if_pos hrun]
      exact frameAt_consistent hr 0
    · rw [if_neg hrun]
      exact hr.of_phase rfl (by simp [h])
  | data =>
    rcases lt_or_ge r.posMag 1000000 with hpos | hpos
    · have hidx : (r.posMag / 1000000).toNat = 0 := by omega
      have hnext := symbol_consistent (i := 0) (consistent_rebase_zero.2 hr) (hr.cursor h) c
      rw [step_data_instant h hpos]
      rwa [hidx] at hnext
    · rw [step_data_before h hpos]
      refine hr.of_n75 rfl fun _ => ?_
      rw [rebase_posMag h]
      omega
  | waitIdle =>
    rw [step_waitIdle h]
    split
    · exact hr
    · exact hr.of_phase rfl nofun

theorem feed_consistent (hr : r.Consistent sps) (ys : List REAL) (out : List Byte) :
    (feed thr sps ys r out).1.Consistent sps := by
  induction ys generalizing r out with
  | nil => exact hr
  | cons y ys ih => exact ih (step_consistent hr _) _

theorem decodeChunk_consistent (hr : r.Consistent sps) (ys : List REAL) : (decodeChunk thr sps r ys).1.Consistent sps := by
  have hfeed := feed_consistent (thr := thr) (consistent_rebase_zero.2 hr) ys []
  rw [← settled_decodeChunk hr] at hfeed
  exact consistent_rebase_zero.1 hfeed

/-- Two chunks that the steps end alike, the second after the bytes `pre`. -/
theorem decodeChunk_of_feed (hr : r.Consistent sps) (hq : q.Consistent sps)
    (h : feed thr sps ys (r.rebase 0) [] = feed thr sps zs (q.rebase 0) pre) :
    (decodeChunk thr sps r ys).2 = pre ++ (decodeChunk thr sps q zs).2 ∧
      (decodeChunk thr sps r ys).1.Alike (decodeChunk thr sps q zs).1 := by
  have hpre := feed_after thr sps zs (q.rebase 0) pre []
  rw [List.append_nil, ← h, ← settled_decodeChunk hr, ← settled_decodeChunk hq] at hpre
  exact ⟨congrArg Prod.snd hpre, alike_iff.2 (congrArg Prod.fst hpre)⟩

/-- Two chunks after one another are one (R183). -/
theorem decodeChunk_append (hr : r.Consistent sps) (xs ys : List REAL) :
    (decodeChunk thr sps r (xs ++ ys)).2 =
        (decodeChunk thr sps r xs).2 ++ (decodeChunk thr sps (decodeChunk thr sps r xs).1 ys).2 ∧
      (decodeChunk thr sps r (xs ++ ys)).1.Alike (decodeChunk thr sps (decodeChunk thr sps r xs).1 ys).1 := by
  refine decodeChunk_of_feed hr (decodeChunk_consistent hr xs) ?_
  rw [feed_append, ← settled_decodeChunk hr]
  rfl

/-! The start of a frame (R178). -/

/-- Where a run that starts a frame is the first of its chunk, or the first with carrier, DATA begins after it. -/
theorem feed_start (h : r.phase = .search) (hn : 0 < r.n75.toNat) (hquiet : ∀ y ∈ quiet, Num.gt y thr = false)
    (hon : ∀ y ∈ on, Num.gt y thr = true) (hpos : 0 < on.length)
    (hrun : quiet ≠ [] → on.length = r.n75.toNat) (hkept : quiet = [] → r.run.toNat + on.length = r.n75.toNat) :
    feed thr sps (quiet ++ on ++ rest) (r.rebase 0) out =
      feed thr sps rest ((r.frameAt sps (quiet.length + on.length - 1)).rebase (quiet.length + on.length)) out := by
  have hframe := frameAt_rebase (r.rebase 0) sps (quiet.length + on.length - 1) 0 1
  rw [Nat.sub_add_cancel (by omega)] at hframe
  refine Eq.trans ?_ (congrArg (feed thr sps rest · out) hframe.symm)
  rcases eq_or_ne quiet [] with rfl | hne
  · exact feed_search_start (r := r.rebase 0) h hon hpos (hkept rfl)
  · rw [List.append_assoc, feed_search_silence (r := r.rebase 0) h hn hquiet hne,
      feed_search_start (r := { r.rebase 0 with run := 0 }) h hon hpos ((Nat.zero_add _).trans (hrun hne))]
    rfl

/-! The data of a frame (R179). -/

/-- The index of the output at symbol `j` of a frame whose first symbol has its instant at the magnified time `p`. -/
def instant (p : Int) (sps j : Nat) : Nat := ((p + (j * sps : Nat)) / 1000000).toNat

/-- The bit of symbol `j`. -/
def bitAt (thr : REAL) (sps : Nat) (ys : List REAL) (p : Int) (j : Nat) : Nat :=
  if Num.gt (ys.getD (instant p sps j) 0) thr then 1 else 0

/-- The bits of `m` symbols from symbol `j` on, most significant first. -/
def bitsFrom (thr : REAL) (sps : Nat) (ys : List REAL) (p : Int) (m j : Nat) : Nat :=
  ((List.range m).map (fun b => bitAt thr sps ys p (j + b) * 2 ^ (m - 1 - b))).sum

theorem instant_mono (h : j ≤ k) : instant p sps j ≤ instant p sps k := by
  have hmul : j * sps ≤ k * sps := Nat.mul_le_mul_right sps h
  unfold instant
  omega

theorem bitsFrom_succ (thr : REAL) (sps : Nat) (ys : List REAL) (p : Int) (m j : Nat) :
    bitsFrom thr sps ys p (m + 1) j = bitAt thr sps ys p j * 2 ^ m + bitsFrom thr sps ys p m (j + 1) := by
  rw [bitsFrom, List.range_succ_eq_map, List.map_cons, List.sum_cons, List.map_map, bitsFrom]
  refine congrArg₂ (· + ·) rfl (congrArg List.sum (List.map_congr_left fun b _ => ?_))
  simp only [Function.comp_apply, Nat.succ_eq_add_one]
  rw [Nat.add_right_comm j 1 b, Nat.add_assoc j b 1, show m + 1 - 1 - (b + 1) = m - 1 - b by omega]

theorem shiftLeft_or_bit (x : Byte) (c : Bool) :
    (x <<< 1) ||| (if c then 1 else 0) = BitVec.ofNat 8 (x.toNat * 2 + if c then 1 else 0) := by
  have hdisjoint : (x <<< 1) &&& (if c then 1 else 0) = 0#8 := by
    cases c with
    | false => exact BitVec.and_zero
    | true => exact BitVec.eq_of_getLsbD_eq fun k _ => by cases k <;> simp [BitVec.getLsbD_one]
  rw [← BitVec.add_eq_or_of_and_eq_zero _ _ hdisjoint]
  refine BitVec.eq_of_toNat_eq ?_
  cases c <;> simp [Nat.shiftLeft_eq]

/-- A datum with one bit more, of the `m + 1` that it lacks. -/
theorem ofNat_datum (d b m rest : Nat) :
    BitVec.ofNat 8 ((BitVec.ofNat 8 (d * 2 + b)).toNat * 2 ^ m + rest) =
      BitVec.ofNat 8 (d * 2 ^ (m + 1) + (b * 2 ^ m + rest)) := by
  refine BitVec.eq_of_toNat_eq ?_
  have hsum : d * 2 ^ (m + 1) + (b * 2 ^ m + rest) = (d * 2 + b) * 2 ^ m + rest := by ring
  simp only [BitVec.toNat_ofNat, hsum]
  rw [Nat.add_mod, Nat.mul_mod, Nat.mod_mod, ← Nat.mul_mod, ← Nat.add_mod]

theorem sampleBit_datum (r : OokRegs) (thr : REAL) (sps : Nat) (ys : List REAL) (p : Int) (j : Nat) :
    (r.sampleBit sps (Num.gt (ys.getD (instant p sps j) 0) thr)).datum =
      BitVec.ofNat 8 (r.datum.toNat * 2 + bitAt thr sps ys p j) :=
  shiftLeft_or_bit ..

theorem sampleBit_posMag {c : Bool} (hpos : q.posMag = p + (j * sps : Nat)) :
    (q.sampleBit sps c).posMag = p + ((j + 1) * sps : Nat) := by
  rw [sampleBit, hpos, add_mul, one_mul, Nat.cast_add, add_assoc]

/-- Symbol `j` of a frame: its bit is taken, and the registers stay consistent. -/
theorem feed_symbol (hphase : q.phase = .data) (hr : (q.rebase i).Consistent sps) (hpos : q.posMag = p + (j * sps : Nat))
    (hlt : instant p sps j < ys.length) (out : List Byte) :
    let x := q.symbol sps (Num.gt (ys.getD (instant p sps j) 0) thr)
    feed thr sps (ys.drop i) (q.rebase i) out =
        feed thr sps (ys.drop (instant p sps j + 1)) (x.1.rebase (instant p sps j + 1)) (out ++ x.2) ∧
      (x.1.rebase (instant p sps j + 1)).Consistent sps := by
  have hcur := hr.cursor hphase
  rw [rebase_posMag hphase] at hcur
  have hfeed := feed_instant (thr := thr) (sps := sps) (i := i) (ys := ys) (out := out) hphase (by omega) (by rwa [hpos])
  have hnext := symbol_consistent hr (by omega) (Num.gt (ys.getD (instant p sps j) 0) thr)
  rw [hpos] at hfeed hnext
  exact ⟨hfeed, hnext⟩

/-- The `m + 1` bits that a datum lacks, from symbol `j` on (R179). -/
theorem feed_datum (hphase : q.phase = .data) (hr : (q.rebase i).Consistent sps) (hpos : q.posMag = p + (j * sps : Nat))
    (hbits : q.bitcnt + (m + 1) = q.bpd) (hlast : instant p sps (j + m) < ys.length) (out : List Byte) :
    let q' := ({ q with posMag := p + ((j + (m + 1)) * sps : Nat) } : OokRegs).endDatum
    feed thr sps (ys.drop i) (q.rebase i) out =
        feed thr sps (ys.drop (instant p sps (j + m) + 1)) (q'.rebase (instant p sps (j + m) + 1))
          (out ++ [BitVec.ofNat 8 (q.datum.toNat * 2 ^ (m + 1) + bitsFrom thr sps ys p (m + 1) j)]) ∧
      (q'.rebase (instant p sps (j + m) + 1)).Consistent sps := by
  induction m generalizing q i j out with
  | zero =>
    have hsymbol := feed_symbol (thr := thr) hphase hr hpos hlast out
    have hend : (q.sampleBit sps (Num.gt (ys.getD (instant p sps j) 0) thr)).endDatum =
        ({ q with posMag := p + ((j + (0 + 1)) * sps : Nat) } : OokRegs).endDatum := by
      rw [Nat.zero_add, ← sampleBit_posMag (c := Num.gt (ys.getD (instant p sps j) 0) thr) hpos]
      rfl
    rw [symbol_last hbits, hend, sampleBit_datum] at hsymbol
    rw [bitsFrom_succ]
    simpa [bitsFrom] using hsymbol
  | succ m ih =>
    have hlt : instant p sps j < ys.length := (instant_mono (Nat.le_add_right j (m + 1))).trans_lt hlast
    obtain ⟨hfeed, hnext⟩ := feed_symbol (thr := thr) hphase hr hpos hlt out
    rw [symbol_next (by omega)] at hfeed hnext
    have hsucc : j + 1 + m = j + (m + 1) := by omega
    have hrest := ih (q := q.sampleBit sps (Num.gt (ys.getD (instant p sps j) 0) thr)) (j := j + 1) hphase hnext
      (sampleBit_posMag hpos) (show q.bitcnt + 1 + (m + 1) = q.bpd by omega) (by rwa [hsucc]) out
    rw [sampleBit_datum, ofNat_datum, ← bitsFrom_succ, hsucc, show j + 1 + (m + 1) = j + (m + 1 + 1) by omega] at hrest
    rw [hfeed, List.append_nil]
    exact hrest

/-- The bytes of `n` data from datum `k` on. -/
def dataFrom (thr : REAL) (sps : Nat) (ys : List REAL) (p : Int) (bpd n k : Nat) : List Byte :=
  (List.range n).map (fun d => BitVec.ofNat 8 (bitsFrom thr sps ys p bpd ((k + d) * bpd)))

theorem dataFrom_succ (thr : REAL) (sps : Nat) (ys : List REAL) (p : Int) (bpd n k : Nat) :
    dataFrom thr sps ys p bpd (n + 1) k =
      BitVec.ofNat 8 (bitsFrom thr sps ys p bpd (k * bpd)) :: dataFrom thr sps ys p bpd n (k + 1) := by
  rw [dataFrom, List.range_succ_eq_map, List.map_cons, List.map_map, Nat.add_zero, dataFrom]
  refine congrArg _ (List.map_congr_left fun d _ => ?_)
  rw [Function.comp_apply, Nat.succ_eq_add_one, Nat.add_assoc k 1 d, Nat.add_comm 1 d]

/-- The registers in WAIT_IDLE after a frame. -/
def afterFrame (r : OokRegs) : OokRegs :=
  { r with phase := .waitIdle, run := 0, datum := 0, bitcnt := 0, datacnt := r.dpf }

theorem endDatum_afterFrame (h : q.datacnt + 1 = q.dpf) (p : Int) (k : Nat) :
    ({ q with posMag := p } : OokRegs).endDatum.rebase k = q.afterFrame.rebase 0 := by
  rw [endDatum_last (r := { q with posMag := p }) h, rebase_of_stale (by simp),
    rebase_of_stale (r := q.afterFrame) (by simp [afterFrame])]
  simp only [afterFrame, h]

theorem datacnt_succ (h : q.datacnt.toNat + (n + 1) = q.dpf.toNat) :
    (q.datacnt + 1).toNat = q.datacnt.toNat + 1 := by
  have hlt := q.dpf.isLt
  rw [BitVec.toNat_add]
  exact Nat.mod_eq_of_lt (by change q.datacnt.toNat + 1 < 2 ^ 32; omega)

/-- A whole datum: the symbols of datum `k` of the frame. -/
theorem feed_wholeDatum (hphase : q.phase = .data) (hr : (q.rebase i).Consistent sps) (hbpd : q.bpd = m + 1)
    (hpos : q.posMag = p + ((k * (m + 1)) * sps : Nat)) (hbit : q.bitcnt = 0) (hdatum : q.datum = 0)
    (hlast : instant p sps (k * (m + 1) + m) < ys.length) (out : List Byte) :
    let q' := ({ q with posMag := p + (((k + 1) * (m + 1)) * sps : Nat) } : OokRegs).endDatum
    feed thr sps (ys.drop i) (q.rebase i) out =
        feed thr sps (ys.drop (instant p sps (k * (m + 1) + m) + 1)) (q'.rebase (instant p sps (k * (m + 1) + m) + 1))
          (out ++ [BitVec.ofNat 8 (bitsFrom thr sps ys p (m + 1) (k * (m + 1)))]) ∧
      (q'.rebase (instant p sps (k * (m + 1) + m) + 1)).Consistent sps := by
  have hzero : q.datum.toNat * 2 ^ (m + 1) = 0 := by rw [hdatum]; exact Nat.zero_mul _
  have hfeed := feed_datum (thr := thr) (m := m) hphase hr hpos (by rw [hbit, hbpd, Nat.zero_add]) hlast out
  rwa [hzero, Nat.zero_add, ← Nat.succ_mul] at hfeed

/-- The `n + 1` data that a frame lacks, from datum `k` on (R179). -/
theorem feed_data (hphase : q.phase = .data) (hr : (q.rebase i).Consistent sps) (hbpd : q.bpd = m + 1)
    (hpos : q.posMag = p + ((k * (m + 1)) * sps : Nat)) (hbit : q.bitcnt = 0) (hdatum : q.datum = 0)
    (hcount : q.datacnt.toNat + (n + 1) = q.dpf.toNat) (hlast : instant p sps ((k + n) * (m + 1) + m) < ys.length)
    (out : List Byte) :
    feed thr sps (ys.drop i) (q.rebase i) out =
      feed thr sps (ys.drop (instant p sps ((k + n) * (m + 1) + m) + 1)) (q.afterFrame.rebase 0)
        (out ++ dataFrom thr sps ys p (m + 1) (n + 1) k) := by
  rw [dataFrom_succ]
  induction n generalizing q i k out with
  | zero =>
    have hend : q.datacnt + 1 = q.dpf := BitVec.eq_of_toNat_eq ((datacnt_succ hcount).trans hcount)
    obtain ⟨hfeed, -⟩ := feed_wholeDatum (thr := thr) hphase hr hbpd hpos hbit hdatum hlast out
    rw [hfeed, endDatum_afterFrame hend]
    rfl
  | succ n ih =>
    have hle : k * (m + 1) + m ≤ (k + (n + 1)) * (m + 1) + m := by
      rw [Nat.add_mul]
      omega
    have hinc := datacnt_succ hcount
    have hnext : q.datacnt + 1 ≠ q.dpf := fun h => by
      have := hinc.symm.trans (congrArg BitVec.toNat h)
      omega
    have hassoc : k + 1 + n = k + (n + 1) := by omega
    obtain ⟨hfeed, hr'⟩ := feed_wholeDatum (thr := thr) hphase hr hbpd hpos hbit hdatum
      ((instant_mono hle).trans_lt hlast) out
    have hend : ({ q with posMag := p + (((k + 1) * (m + 1)) * sps : Nat) } : OokRegs).endDatum =
      { q with posMag := p + (((k + 1) * (m + 1)) * sps : Nat), datum := 0, bitcnt := 0, datacnt := q.datacnt + 1 } :=
      endDatum_next hnext
    rw [hend] at hfeed hr'
    have hrest := ih (q := { q with posMag := p + (((k + 1) * (m + 1)) * sps : Nat), datum := 0, bitcnt := 0,
                                    datacnt := q.datacnt + 1 })
      hphase hr' hbpd rfl rfl rfl (by rw [hinc, ← hcount]; omega) (by rwa [hassoc])
      (out ++ [BitVec.ofNat 8 (bitsFrom thr sps ys p (m + 1) (k * (m + 1)))])
    rw [hfeed, hrest, hassoc, List.append_assoc, dataFrom_succ]
    rfl

theorem dataFrom_zero (thr : REAL) (sps : Nat) (ys : List REAL) (p : Int) (bpd n : Nat) :
    dataFrom thr sps ys p bpd n 0 = (List.range n).map (fun d => BitVec.ofNat 8 (bitsFrom thr sps ys p bpd (d * bpd))) := by
  simp only [dataFrom, Nat.zero_add]

/-- A frame from its start run to its last instant (R178, R179). -/
theorem feed_frame (hr : r.Consistent sps) (h : r.phase = .search) (hbpd : 1 ≤ r.bpd) (hdpf : r.dpf ≠ 0)
    (hquiet : ∀ y ∈ quiet, Num.gt y thr = false) (hon : ∀ y ∈ on, Num.gt y thr = true) (hpos : 0 < on.length)
    (hrun : quiet ≠ [] → on.length = r.n75.toNat) (hkept : quiet = [] → r.run.toNat + on.length = r.n75.toNat)
    (hp : p = ((quiet.length : Int) + on.length - r.n75.toNat) * 1000000 + (3 * sps / 2 : Nat))
    (hlast : instant p sps (r.bpd * r.dpf.toNat - 1) < (quiet ++ on ++ rest).length) :
    feed thr sps (quiet ++ on ++ rest) (r.rebase 0) [] =
      feed thr sps ((quiet ++ on ++ rest).drop (instant p sps (r.bpd * r.dpf.toNat - 1) + 1)) (r.afterFrame.rebase 0)
        (dataFrom thr sps (quiet ++ on ++ rest) p r.bpd r.dpf.toNat 0) := by
  obtain ⟨-, hn, -⟩ := hr.bounds
  obtain ⟨m, hm⟩ : ∃ m, r.bpd = m + 1 := ⟨r.bpd - 1, by omega⟩
  obtain ⟨n, hdata⟩ : ∃ n, r.dpf.toNat = n + 1 :=
    ⟨r.dpf.toNat - 1, (Nat.succ_pred_eq_of_ne_zero fun h0 => hdpf (BitVec.eq_of_toNat_eq h0)).symm⟩
  obtain ⟨i, hi⟩ : ∃ i, quiet.length + on.length = i + 1 := ⟨quiet.length + on.length - 1, by omega⟩
  have hsymbols : r.bpd * r.dpf.toNat - 1 = (0 + n) * (m + 1) + m := by
    rw [hm, hdata, Nat.zero_add, Nat.mul_succ, Nat.mul_comm]
    omega
  have hdrop : (quiet ++ on ++ rest).drop (i + 1) = rest := List.drop_left' (by rw [List.length_append, hi])
  have hafter : (r.frameAt sps i).afterFrame.rebase 0 = r.afterFrame.rebase 0 := by
    rw [rebase_of_stale (by simp [afterFrame]), rebase_of_stale (by simp [afterFrame])]
    rfl
  have hstart := feed_start (thr := thr) (sps := sps) (rest := rest) (out := []) h hn hquiet hon hpos hrun hkept
  have hframe := feed_data (thr := thr) (ys := quiet ++ on ++ rest) (q := r.frameAt sps i) (p := p) (k := 0) (n := n)
    rfl (frameAt_consistent hr i) hm (by rw [hp, frameAt]; simp only; push_cast; omega) rfl rfl
    ((Nat.zero_add _).trans hdata.symm) (hsymbols ▸ hlast) []
  rw [hdrop, hafter, List.nil_append] at hframe
  rw [hsymbols, hm, hdata, hstart, hi, Nat.add_sub_cancel, hframe]

/-! Runs and waits that start no frame. -/

/-- A start run that an output without carrier breaks is dropped (R178). -/
theorem feed_broken (hr : r.Consistent sps) (h : r.phase = .search) (hon : ∀ y ∈ on, Num.gt y thr = true)
    (hz : Num.gt z thr = false) (hrun : on ≠ [] → r.run.toNat + on.length < r.n75.toNat) :
    feed thr sps (on ++ z :: rest) (r.rebase 0) out = feed thr sps rest ({ r with run := 0 }.rebase 0) out := by
  obtain ⟨-, hn, -⟩ := hr.bounds
  rw [feed_search_carriers (r := r.rebase 0) h hon hrun]
  exact feed_cons_of_step hz
    (step_search_silence (r := { r.rebase 0 with run := r.run + BitVec.ofNat 64 on.length }) h hn)

/-- A wait ends with an output without carrier (R180). -/
theorem feed_waited (h : r.phase = .waitIdle) (hon : ∀ y ∈ on, Num.gt y thr = true) (hz : Num.gt z thr = false) :
    feed thr sps (on ++ z :: rest) (r.rebase 0) out =
      feed thr sps rest ({ r with phase := .search, run := 0 }.rebase 0) out := by
  rw [feed_waitIdle_carriers (r := r.rebase 0) h hon, feed_waitIdle_silence (r := r.rebase 0) h hz,
    rebase_of_stale (by simp [h]), rebase_of_stale (by simp)]

theorem search_carriers (h : r.phase = .search) (hon : ∀ y ∈ on, Num.gt y thr = true)
    (hrun : r.run.toNat + on.length < r.n75.toNat) :
    search thr sps on i r = ({ r with run := r.run + BitVec.ofNat 64 on.length }, i + on.length) := by
  induction on generalizing r i with
  | nil => rw [search, List.length_nil, BitVec.add_zero, Nat.add_zero]
  | cons y on ih =>
    rw [List.length_cons] at hrun
    obtain ⟨hy, hon⟩ := List.forall_mem_cons.1 hon
    obtain ⟨hinc, hnat⟩ := satInc_of_lt (x := r.run) (by omega)
    have hstep : (if Num.gt y thr then satInc r.run else 0) = r.run + 1 := by rw [if_pos hy, hinc]
    rw [search_cons_on (by rw [hstep]; omega), hstep,
      ih (r := { r with run := r.run + 1 }) h hon (by simp only; omega), add_one_add_ofNat, List.length_cons,
      Nat.add_right_comm, Nat.add_assoc]

theorem skipCarrier_carriers (hon : ∀ y ∈ on, Num.gt y thr = true) : skipCarrier thr on i = i + on.length := by
  induction on generalizing i with
  | nil => rfl
  | cons y on ih =>
    obtain ⟨hy, hon⟩ := List.forall_mem_cons.1 hon
    simp only [skipCarrier, Params.plcphy_gt, hy, if_true, ih hon, List.length_cons]
    omega

/-- A short run that the chunk's end cuts is kept (R183). -/
theorem decodeChunk_shortRun (h : r.phase = .search) (hon : ∀ y ∈ on, Num.gt y thr = true)
    (hrun : r.run.toNat + on.length < r.n75.toNat) :
    decodeChunk thr sps r on = ({ r with run := r.run + BitVec.ofNat 64 on.length }, []) := by
  rw [decodeChunk, parse_search h, List.drop_zero, search_carriers h hon hrun]
  exact if_pos h

/-- A wait that the chunk's end cuts is kept (R183). -/
theorem decodeChunk_wait (h : r.phase = .waitIdle) (hon : ∀ y ∈ on, Num.gt y thr = true) :
    decodeChunk thr sps r on = (r, []) := by
  rw [decodeChunk, parse_waitIdle h, List.drop_zero, skipCarrier_carriers hon, Nat.zero_add, if_pos (Nat.le_refl _)]

end OokRegs

/-- Settles O33: the loop of R182 is the steps of the outputs in order, and each clause says what some steps do. -/
theorem ookDecodingIsChunkIndependent : Obligations.OokDecodingIsChunkIndependent := by
  intro thr sps r hr decode carrier
  refine ⟨OokRegs.decodeChunk_append hr, ?frame, fun on rest z hon hz => ⟨fun h hrun => ?broken, fun h => ?waited⟩,
    fun on hon => ⟨fun h hrun => OokRegs.decodeChunk_shortRun h hon hrun, fun h => OokRegs.decodeChunk_wait h hon⟩⟩
  case frame =>
    intro quiet on rest h hbpd _ hdpf hquiet hon hpos hrun hkept ys origin instant last hlast bit datum idle
    have hfeed := OokRegs.feed_frame (rest := rest) hr h hbpd hdpf hquiet hon hpos hrun hkept rfl hlast
    rw [OokRegs.dataFrom_zero] at hfeed
    exact OokRegs.decodeChunk_of_feed hr (q := idle) (hr.of_phase rfl nofun) hfeed
  case broken =>
    have hfeed := OokRegs.feed_broken (rest := rest) (out := []) hr h hon hz hrun
    exact OokRegs.decodeChunk_of_feed hr (q := { r with run := 0 }) (hr.of_phase rfl (by simp [h])) hfeed
  case waited =>
    have hfeed := OokRegs.feed_waited (sps := sps) (rest := rest) (out := []) h hon hz
    exact OokRegs.decodeChunk_of_feed hr (q := { r with phase := .search, run := 0 }) (hr.of_phase rfl nofun) hfeed

end Sys2Proof.Machine
end

section
/-! The time of a bit-stream encoder (43_encoders.md R220, R236): which segment sample `n` after `RESET` is generated
in. -/

namespace Sys2Proof.Machine

/-! The times at which the segments begin. -/

theorem segmentStart_succ {segs : List Segment} {j : Nat} {g : Segment} (sps : Nat) (hg : segs[j]? = some g) :
    segmentStart segs sps (j + 1) = segmentStart segs sps j + g.d * sps := by
  simp [segmentStart, List.take_add_one, hg]

theorem segmentStart_mono (segs : List Segment) (sps : Nat) : Monotone (segmentStart segs sps) := by
  refine monotone_nat_of_le_succ fun j => ?_
  cases hg : segs[j]? with
  | none => simp [segmentStart, List.take_add_one, hg]
  | some g => exact segmentStart_succ sps hg ▸ Nat.le_add_right ..

namespace EncSeq

/-- The encoder as it generates a sample: the segments that are over left behind (R220). -/
def loaded (u : EncSeq) : EncSeq := load (u.segs.drop u.segIdx.toNat) u

/-- The sample of an encoder whose segments are loaded (R220). -/
def playing (u : EncSeq) : Sample :=
  if u.done || !u.curOn then u.lvl0 else toneSample (u.plug.num idOffset) u.amp (Num.cosw u.phase)

/-- The registers of an encoder whose segments are loaded, one sample on (R220). -/
def elapse (u : EncSeq) : EncSeq :=
  { u with acc := if u.done then u.acc else u.acc - 1000000, phase := u.phase + u.efw }

theorem sample_eq (u : EncSeq) : u.sample = (u.loaded.playing, u.loaded.elapse) := rfl

theorem after_succ (n : Nat) (u : EncSeq) : u.after (n + 1) = (u.after n).sample.2 := by
  induction n generalizing u with
  | zero => rfl
  | succ n ih => exact ih u.sample.2

variable (u : EncSeq)

/-- The encoder at sample `n` with `i` segments loaded, the last of them at level `c`: the time left is that to the end
of segment `i - 1` (R236). -/
def loadedTo (i : Nat) (c : Bool) (n : Nat) : EncSeq :=
  { u with segIdx := BitVec.ofNat 32 i, acc := (segmentStart u.segs u.spsNum.toNat i : Int) - (n * 1000000 : Nat),
           curOn := c, done := false, phase := BitVec.ofNat 32 n * u.efw }

theorem loadedTo_zero (hidx : u.segIdx = 0) (hacc : u.acc = 0) (hdone : u.done = false) (hphase : u.phase = 0) :
    u.loadedTo 0 u.curOn 0 = u := by
  obtain ⟨⟩ := u
  simp_all [loadedTo, segmentStart]

theorem elapse_loadedTo (i : Nat) (c : Bool) (n : Nat) : (u.loadedTo i c n).elapse = u.loadedTo i c (n + 1) := by
  have hphase : BitVec.ofNat 32 n * u.efw + u.efw = BitVec.ofNat 32 (n + 1) * u.efw := by
    rw [BitVec.ofNat_add, BitVec.add_mul, BitVec.one_mul]
  simp only [elapse, loadedTo, hphase, Bool.false_eq_true, if_false]
  congr 1
  omega

/-- Once `done` is set, no segment is loaded any more (R220). -/
theorem load_of_done (gs : List Segment) (hdone : u.done = true) : load gs u = u := by
  cases gs <;> simp [load, hdone]

/-- Time is left in the segment loaded last: no other is loaded. -/
theorem load_of_time_left {i n : Nat} {c : Bool} (htime : n * 1000000 < segmentStart u.segs u.spsNum.toNat i)
    (gs : List Segment) : load gs (u.loadedTo i c n) = u.loadedTo i c n := by
  have hleft : ¬(u.loadedTo i c n).acc ≤ 0 := by simp only [loadedTo]; omega
  cases gs <;> simp [load, hleft]

/-- No time is left in the segment loaded last: the next is loaded. -/
theorem load_cons {i n : Nat} {c : Bool} {g : Segment} {gs : List Segment} (hg : u.segs[i]? = some g)
    (htime : segmentStart u.segs u.spsNum.toNat i ≤ n * 1000000) :
    load (g :: gs) (u.loadedTo i c n) = load gs (u.loadedTo (i + 1) g.on n) := by
  have hpast : (u.loadedTo i c n).acc ≤ 0 := by simp only [loadedTo]; omega
  have hnext : (u.loadedTo (i + 1) g.on n) =
      { u.loadedTo i c n with
        curOn := g.on, segIdx := (u.loadedTo i c n).segIdx + 1,
        acc := (u.loadedTo i c n).acc + (g.d * u.spsNum.toNat : Nat) } := by
    simp only [loadedTo, segmentStart_succ _ hg, BitVec.ofNat_add]
    congr 1
    omega
  rw [load, if_pos ⟨rfl, hpast⟩, hnext]
  rfl

/-- What the encoder is at as it generates sample `n` after `RESET`: the segment whose time holds `n * MAG`, or the end
(R236). -/
inductive Stage (n : Nat) : EncSeq → Prop where
  | segment {j : Nat} {g : Segment} (seg : u.segs[j]? = some g)
      (begun : segmentStart u.segs u.spsNum.toNat j ≤ n * 1000000)
      (within : n * 1000000 < segmentStart u.segs u.spsNum.toNat (j + 1)) : Stage n (u.loadedTo (j + 1) g.on n)
  | ended {i : BitVec 32} {a : Int} {c : Bool} {p : BitVec 32}
      (past : segmentStart u.segs u.spsNum.toNat u.segs.length ≤ n * 1000000) :
      Stage n { u with segIdx := i, acc := a, curOn := c, done := true, phase := p }

/-- Loading from segment `i` on, all before it being over, ends where time is left. -/
theorem stage_load {i n : Nat} {c : Bool} (hi : i ≤ u.segs.length)
    (htime : segmentStart u.segs u.spsNum.toNat i ≤ n * 1000000) :
    u.Stage n (load (u.segs.drop i) (u.loadedTo i c n)) := by
  induction hgs : u.segs.drop i generalizing i c with
  | nil =>
    have hend : i = u.segs.length := le_antisymm hi (List.drop_eq_nil_iff.1 hgs)
    have hpast : (u.loadedTo i c n).acc ≤ 0 := by simp only [loadedTo]; omega
    rw [load, if_pos ⟨rfl, hpast⟩]
    exact .ended (hend ▸ htime)
  | cons g gs ih =>
    have hg : u.segs[i]? = some g := by rw [← List.head?_drop, hgs]; rfl
    have hnext : u.segs.drop (i + 1) = gs := by rw [← List.tail_drop, hgs]; rfl
    rw [u.load_cons hg htime]
    rcases Nat.lt_or_ge (n * 1000000) (segmentStart u.segs u.spsNum.toNat (i + 1)) with hleft | hpast
    · rw [u.load_of_time_left hleft]
      exact .segment hg htime hleft
    · exact ih (List.getElem?_eq_some_iff.1 hg).1 hpast hnext

variable (hlen : u.segs.length < 2 ^ 32)
include hlen

theorem segIdx_loadedTo {i : Nat} (hi : i ≤ u.segs.length) (c : Bool) (n : Nat) :
    (u.loadedTo i c n).segIdx.toNat = i :=
  Nat.mod_eq_of_lt (hi.trans_lt hlen)

theorem loaded_loadedTo {i : Nat} (hi : i ≤ u.segs.length) (c : Bool) (n : Nat) :
    (u.loadedTo i c n).loaded = load (u.segs.drop i) (u.loadedTo i c n) := by
  rw [loaded, u.segIdx_loadedTo hlen hi]
  rfl

/-- One sample takes the encoder from what it is at to what it is at one sample on. -/
theorem stage_elapse {n : Nat} {w : EncSeq} (h : u.Stage n w) : u.Stage (n + 1) w.elapse.loaded := by
  have hlater : n * 1000000 ≤ (n + 1) * 1000000 := Nat.mul_le_mul_right _ n.le_succ
  cases h with
  | @segment j g hg begun within =>
    have hj : j + 1 ≤ u.segs.length := (List.getElem?_eq_some_iff.1 hg).1
    rw [elapse_loadedTo, u.loaded_loadedTo hlen hj]
    rcases Nat.lt_or_ge ((n + 1) * 1000000) (segmentStart u.segs u.spsNum.toNat (j + 1)) with hleft | hpast
    · rw [u.load_of_time_left hleft]
      exact .segment hg (begun.trans hlater) hleft
    · exact u.stage_load hj hpast
  | ended past =>
    rw [loaded, load_of_done _ _ rfl]
    exact .ended (past.trans hlater)

/-- Sample `n` after `RESET` (R236). -/
theorem stage_after (hidx : u.segIdx = 0) (hacc : u.acc = 0) (hdone : u.done = false) (hphase : u.phase = 0) (n : Nat) :
    u.Stage n (u.after n).loaded := by
  induction n with
  | zero =>
    have hload : u.loaded = load (u.segs.drop 0) (u.loadedTo 0 u.curOn 0) := by
      rw [← u.loaded_loadedTo hlen (Nat.zero_le _), u.loadedTo_zero hidx hacc hdone hphase]
    rw [after, hload]
    exact u.stage_load (Nat.zero_le _) (by simp [segmentStart])
  | succ n ih =>
    rw [after_succ, sample_eq]
    exact u.stage_elapse hlen ih

end EncSeq

/-- Settles O41: what the encoder is at as it generates sample `n` (`stage_after`), the segments' times being in
order. -/
theorem segmentsKeepExactTime : Obligations.SegmentsKeepExactTime := by
  intro u n hidx hacc hdone hphase hlen v start
  have hv : v = ((u.after n).loaded.playing, (u.after n).loaded.elapse) := EncSeq.sample_eq _
  have hstage := u.stage_after hlen hidx hacc hdone hphase n
  have hmono : Monotone start := segmentStart_mono u.segs u.spsNum.toNat
  rw [hv]
  generalize (u.after n).loaded = w at hstage
  refine ⟨fun j g hg begun within => ?inSegment, fun past => ?atEnd⟩
  case inSegment =>
    have hj : j + 1 ≤ u.segs.length := (List.getElem?_eq_some_iff.1 hg).1
    cases hstage with
    | @segment k f hf kbegun kwithin =>
      have hle : k < j + 1 := hmono.reflect_lt (kbegun.trans_lt within)
      have hge : j < k + 1 := hmono.reflect_lt (begun.trans_lt kwithin)
      obtain rfl : k = j := by omega
      obtain rfl : f = g := Option.some.inj (hf.symm.trans hg)
      refine ⟨rfl, rfl, u.segIdx_loadedTo hlen hj f.on n, ?_⟩
      cases hon : f.on <;> rfl
    | ended past =>
      have hend : start (j + 1) ≤ start u.segs.length := hmono hj
      exact absurd (within.trans_le hend) (Nat.not_lt.2 past)
  case atEnd =>
    cases hstage with
    | @segment k f hf kbegun kwithin =>
      have hend : start (k + 1) ≤ start u.segs.length := hmono (List.getElem?_eq_some_iff.1 hf).1
      exact absurd (kwithin.trans_le hend) (Nat.not_lt.2 past)
    | ended => exact ⟨rfl, rfl⟩

end Sys2Proof.Machine
end

section
/-! `RESET` of an encoder (43_encoders.md R213, R223, R228, R233, R238, R242): what it writes, and that it undoes
whatever generating has done. -/

namespace Sys2Proof.Machine

/-! A sample changes only registers that a restart writes. -/

theorem EncWave.restart_sweepSample (u : EncWave) : u.sweepSample.2.restart = u.restart := by
  simp only [EncWave.sweepSample]
  split <;> rfl

theorem EncWave.restart_sample (u : EncWave) : u.sample.2.restart = u.restart := by
  simp only [EncWave.sample]
  split
  · rfl
  · rfl
  · split <;> rfl
  · split <;> rfl
  · rfl
  · exact u.restart_sweepSample

theorem EncWav.restart_atEnd (u : EncWav) : u.atEnd.restart = u.restart := by
  unfold EncWav.atEnd
  split
  · split <;> rfl
  · rfl

theorem EncWav.restart_sample (pbm : List Host.Cell) (u : EncWav) : (u.sample pbm).2.restart = u.restart := by
  simp only [EncWav.sample]
  split <;> exact u.restart_atEnd

theorem EncSeq.restart_sample (u : EncSeq) : u.sample.2.restart = u.restart := by
  obtain ⟨i, a, c, d, hload⟩ := EncSeq.load_frame (u.segs.drop u.segIdx.toNat) u
  simp [EncSeq.sample, hload, EncSeq.restart]

theorem resetBody_encSample (e : EncUnit) (s : State) : resetBody e (encSample e s).2 = resetBody e s := by
  cases e with
  | wave => simp only [encSample, resetBody, EncWave.restart_sample]
  | wav => simp only [encSample, resetBody, EncWav.restart_sample]
  | ook | pwm | morse => simp only [encSample, resetBody, EncSeq.restart_sample]

/-- A restart after any number of samples is a restart before them (R238). -/
theorem resetBody_encSamples (e : EncUnit) (k : Nat) (s : State) :
    resetBody e (encSamples e k s).2 = resetBody e s := by
  induction k generalizing s with
  | zero => rfl
  | succ k ih => exact (ih _).trans (resetBody_encSample e s)

/-- An accepted `RESET` (R238). -/
theorem resetCommand_accepted {e : EncUnit} {s : State} (hadm : Admits s (.enc e) .idle ∨ Admits s (.enc e) .active)
    (hready : (s.plug (.enc e)).ready = true) :
    resetCommand e s = .next { resetBody e s with rsp := [0x00000000] } := by
  rw [resetCommand, hready]
  rcases hadm with hadm | hadm
  · exact pluginCommand_succeed hadm rfl
  · exact pluginCommand_succeed hadm rfl

/-- Settles O38: the accepted command, unit by unit, and the restart after generating. -/
theorem resetRestartsGeneration : Obligations.ResetRestartsGeneration := by
  refine ⟨fun e s hadm hready => ?_, resetBody_encSamples⟩
  obtain ⟨hothers, hsystem, hports⟩ := onlyUnit_resetBody e s
  exact ⟨_, (exec_reset e s).trans (resetCommand_accepted hadm hready), rfl, ⟨hothers, hsystem, hports⟩,
    plug_resetBody e s, by rintro rfl; rfl, by rintro rfl; rfl, by rintro rfl; rfl, by rintro rfl; rfl,
    by rintro rfl; rfl⟩

end Sys2Proof.Machine
end

section
/-! TXS fills a buffer (44_scheduler.md R268, R269): the samples of the bound encoder, written into the buffer
`fill_idx`. -/

namespace Sys2Proof.Machine

/-- Consecutive writes to an owned buffer, inside the session's length, write that buffer's samples and nothing else. -/
theorem bufWriteAll_eq {pool : List PoolBuf} {n : Nat} {who : Owner} {j : Nat} {b : PoolBuf} (hb : pool[j]? = some b)
    (howner : b.owner = who) (vs : List Sample) (i : Nat) (hroom : i + vs.length ≤ n) :
    bufWriteAll pool n who j i vs = .ok (pool.set j { b with samples := Memory.writeFrom b.samples i vs }) := by
  induction vs generalizing pool i b with
  | nil =>
    obtain ⟨hj, rfl⟩ := List.getElem?_eq_some_iff.1 hb
    exact congrArg Except.ok (List.set_getElem_self hj).symm
  | cons v vs ih =>
    rw [List.length_cons] at hroom
    have hwrite : bufWrite pool n who j i v =
        .ok (pool.set j { b with samples := Memory.write b.samples i v }) := by
      simp [bufWrite, hb, howner, show i < n by omega]
    obtain ⟨hj, -⟩ := List.getElem?_eq_some_iff.1 hb
    rw [bufWriteAll, hwrite]
    refine (ih (b := { b with samples := Memory.write b.samples i v }) (List.getElem?_set_self hj) howner (i + 1)
      (by omega)).trans ?_
    rw [List.set_set, Memory.writeFrom]

/-- The registers of TXS after a fill: PRELOADING moves on to the next buffer, FILL to PACE (R268, R269). -/
def Txs.filled (x : Txs) : Txs :=
  if x.state = .preloading then { x with fillIdx := (x.fillIdx + 1) % 2 } else { x with phase := .pace }

/-- The state after a fill of buffer `fill_idx`, until now `b`, by encoder `e`. -/
def txFillDone (e : EncUnit) (b : PoolBuf) (s : State) : State :=
  let out := encSamples e s.txs.n.toNat s
  { out.2 with
    txPool := s.txPool.set s.txs.fillIdx { b with samples := Memory.writeFrom b.samples 0 out.1 },
    txFilled := s.txFilled.set s.txs.fillIdx true, txs := s.txs.filled }

variable {s : State} {e : EncUnit} {b : PoolBuf}

theorem txFill_owned (hbound : s.txs.enc = some e) (hb : s.txPool[s.txs.fillIdx]? = some b) (howner : b.owner = .sched) :
    txFill s.txs.fillIdx s = .filled { txFillDone e b s with txs := s.txs } := by
  have hsame := encSamples_sameSched e s.txs.n.toNat s
  obtain ⟨hlen, -⟩ := encSamples_frame e s.txs.n.toNat s
  have hwrite := bufWriteAll_eq (n := s.txs.n.toNat) hb howner (encSamples e s.txs.n.toNat s).1 0
    (by rw [hlen, Nat.zero_add])
  unfold txFill
  simp only [hbound, encPrepare_of_le le_rfl, hsame.txPool, hsame.txs, hwrite, hsame.txFilled, txFillDone]

theorem txsStep_fills (hrun : s.halted = false) (hbound : s.txs.enc = some e)
    (hb : s.txPool[s.txs.fillIdx]? = some b) (howner : b.owner = .sched)
    (hempty : s.txFilled.getD s.txs.fillIdx false = false)
    (hturn : (s.txs.state = .preloading ∧ s.txs.stopReq = false) ∨ (s.txs.state = .running ∧ s.txs.phase = .fill)) :
    txsStep s = .next (txFillDone e b s) := by
  have hfill := txFill_owned hbound hb howner
  rcases hturn with ⟨hstate, hstop⟩ | ⟨hstate, hphase⟩
  · have hstep : txsStep s = txPreloading s := by simp [txsStep, hrun, hstate]
    rw [hstep, txPreloading, hstop, hempty, hfill]
    simp [txFillDone, Txs.filled, hstate, nextBuf]
  · have hstep : txsStep s = txRunFill s := by simp [txsStep, txRunning, hrun, hstate, hphase]
    rw [hstep, txRunFill, hempty, hfill]
    simp [txFillDone, Txs.filled, hstate, State.setTxPhase]

/-- What TXS keeps of itself and of its buffers is no unit's register. -/
theorem regs_of_tx (s : State) (txs : Txs) (txPool : List PoolBuf) (txFilled : List Bool) (v : PluginUnit) :
    State.regs { s with txs := txs, txPool := txPool, txFilled := txFilled } v = s.regs v := by
  rcases v with (_ | _ | _ | _) | (_ | _ | _ | _ | _) <;> rfl

/-- A fill changes the encoder, and of the rest what TXS keeps (R269). -/
theorem onlyUnit_txFillDone (e : EncUnit) (b : PoolBuf) (s : State) :
    let t := txFillDone e b s
    OnlyUnit (.enc e) { s with txs := t.txs, txPool := t.txPool, txFilled := t.txFilled } t := by
  obtain ⟨hothers, hsystem, hports⟩ := onlyUnit_encSamples e s.txs.n.toNat s
  refine ⟨fun v hv => ?_, ?_, hports⟩
  · exact (regs_of_tx _ _ _ _ v).trans ((hothers v hv).trans (regs_of_tx ..).symm)
  · exact congrArg (fun r : SystemRegs => { r with
      txs := (txFillDone e b s).txs, txPool := (txFillDone e b s).txPool, txFilled := (txFillDone e b s).txFilled })
      hsystem

/-- Settles O56: the fill, whose samples are read back by the laws of consecutive writes. -/
theorem txFillsABuffer : Obligations.TxFillsABuffer := by
  intro e s b hrun hbound hb howner hempty _ hturn
  obtain ⟨hlen, -⟩ := encSamples_frame e s.txs.n.toNat s
  refine ⟨txFillDone e b s, _, txsStep_fills hrun hbound hb howner hempty hturn, rfl, howner, fun i hi => ?_,
    fun i hi => Memory.read_writeFrom_above _ _ (by omega), rfl, rfl, regs_of_tx _ _ _ _, onlyUnit_txFillDone e b s,
    encSamples_rsp ..⟩
  have hread := Memory.read_writeFrom_at b.samples 0 (encSamples e s.txs.n.toNat s).1 i (hi.trans_eq hlen.symm)
  rwa [Nat.zero_add] at hread

end Sys2Proof.Machine
end

section
/-! The steps of TXS (44_scheduler.md R266 to R274): which part of its loop each state and phase runs, and what an event
does to the buffer in flight. -/

namespace Sys2Proof.Machine

variable {s : State} {j : Nat} {w : Word} {rest : List Word}

/-! The part of the loop by state and phase. -/

theorem txsStep_preloading (hrun : s.halted = false) (hstate : s.txs.state = .preloading) :
    txsStep s = txPreloading s := by
  simp [txsStep, hrun, hstate]

theorem txsStep_armed (hrun : s.halted = false) (hstate : s.txs.state = .armed) :
    txsStep s =
      .next (if s.txs.stopReq then s.setTxState .stopping else (s.setTxState .running).setTxPhase .check) := by
  simp [txsStep, hrun, hstate]

theorem txsStep_running (hrun : s.halted = false) (hstate : s.txs.state = .running) : txsStep s = txRunning s := by
  simp [txsStep, hrun, hstate]

theorem txsStep_stopping (hrun : s.halted = false) (hstate : s.txs.state = .stopping) :
    txsStep s = .next (txStopping s) := by
  simp [txsStep, hrun, hstate]

theorem txsStep_wait (hrun : s.halted = false) (hstate : s.txs.state = .running) (hphase : s.txs.phase = .wait) :
    txsStep s = .next (txWait s) := by
  rw [txsStep_running hrun hstate, txRunning, hphase]

theorem txPreloading_stop (hstop : s.txs.stopReq = true) : txPreloading s = .next (s.setTxState .stopping) := by
  rw [txPreloading, if_pos hstop]

theorem txPreloading_filled (hstop : s.txs.stopReq = false) (hfilled : s.txFilled.getD s.txs.fillIdx false = true) :
    txPreloading s = .next (s.setTxState .armed) := by
  rw [txPreloading, hstop, if_neg Bool.false_ne_true, if_pos hfilled]

theorem txRunFill_filled (hfilled : s.txFilled.getD s.txs.fillIdx false = true) :
    txRunFill s = .next (s.setTxPhase .pace) := by
  rw [txRunFill, if_pos hfilled]

theorem txWait_free (hfree : s.txs.inflight = none) : txWait s = s.setTxPhase .hand := by
  rw [txWait, hfree]

theorem txStopping_free (hfree : s.txs.inflight = none) : txStopping s = txClose s := by
  rw [txStopping, hfree]

/-- WAIT and STOPPING take the next event of the buffer in flight, if there is one (R272, R274). -/
theorem txWait_event (hinflight : s.txs.inflight = some j) (hqueue : s.txQueue = w :: rest) :
    txWait s = txConsume true w rest s := by
  simp only [txWait, hinflight, hqueue]

theorem txStopping_event (hinflight : s.txs.inflight = some j) (hqueue : s.txQueue = w :: rest) :
    txStopping s = txConsume false w rest s := by
  simp only [txStopping, hinflight, hqueue]

theorem txWait_noEvent (hinflight : s.txs.inflight ≠ none) (hqueue : s.txQueue = []) : txWait s = s := by
  obtain ⟨j, hj⟩ := Option.ne_none_iff_exists'.1 hinflight
  simp only [txWait, hj, hqueue]

theorem txStopping_noEvent (hinflight : s.txs.inflight ≠ none) (hqueue : s.txQueue = []) : txStopping s = s := by
  obtain ⟨j, hj⟩ := Option.ne_none_iff_exists'.1 hinflight
  simp only [txStopping, hj, hqueue]

/-! One event (R272, R274). -/

theorem txConsume_sent (inWait : Bool) (hinflight : s.txs.inflight = some j) (hsame : w.unit.toNat = j)
    (hcount : w.arg = s.txs.n) : txConsume inWait w rest s = txSent inWait j rest s := by
  subst hsame
  rw [txConsume, if_pos hinflight, if_neg (not_not_intro hcount)]
  rfl

theorem txConsume_badCount (inWait : Bool) (hrun : s.halted = false) (hinflight : s.txs.inflight = some j)
    (hsame : w.unit.toNat = j) (hcount : w.arg ≠ s.txs.n) :
    txConsume inWait w rest s = { s with txQueue := rest, halted := true, fatalCode := 3 } := by
  subst hsame
  rw [txConsume, if_pos hinflight, if_pos hcount]
  exact raiseFatal_eq (s := { s with txQueue := rest }) hrun .count

theorem txConsume_other (inWait : Bool) (hinflight : s.txs.inflight = some j) (hother : w.unit.toNat ≠ j) :
    txConsume inWait w rest s = { s with txQueue := rest } := by
  rw [txConsume, if_neg fun h => hother (Option.some.inj (h.symm.trans hinflight))]

/-- Settles O57: the part of the loop each state runs, and of WAIT and STOPPING the three kinds of event. -/
theorem txConsumesASentBuffer : Obligations.TxConsumesASentBuffer := by
  refine ⟨fun s j w rest hrun hstate hphase hinflight hqueue => ?wait,
    fun s j w rest hrun hstate hinflight hqueue => ?stopping, fun s hrun => ⟨?preloading, ?armed, ?running, ?noEvent⟩⟩
  case wait =>
    rw [txsStep_wait hrun hstate hphase, txWait_event hinflight hqueue]
    refine ⟨fun hsame hcount => ?_, fun hsame hcount => ?_, fun hother => ?_⟩
    · rw [txConsume_sent true hinflight hsame hcount]; rfl
    · rw [txConsume_badCount true hrun hinflight hsame hcount]
    · rw [txConsume_other true hinflight hother]
  case stopping =>
    rw [txsStep_stopping hrun hstate, txStopping_event hinflight hqueue]
    refine ⟨fun hsame hcount => ?_, fun hsame hcount => ?_, fun hother => ?_⟩
    · rw [txConsume_sent false hinflight hsame hcount]; rfl
    · rw [txConsume_badCount false hrun hinflight hsame hcount]
    · rw [txConsume_other false hinflight hother]
  case preloading =>
    intro hstate hstop hfilled
    rw [txsStep_preloading hrun hstate, txPreloading_filled hstop hfilled]
    rfl
  case armed =>
    intro hstate hstop
    rw [txsStep_armed hrun hstate, hstop]
    rfl
  case running =>
    intro hstate
    rw [txsStep_running hrun hstate, txRunning.eq_def]
    refine ⟨fun hphase => ?_, fun hphase hfilled => ?_, fun hphase => ?_, fun hphase hfree => ?_⟩ <;> rw [hphase]
    · cases s.txs.stopReq <;> rfl
    · exact txRunFill_filled hfilled
    · rfl
    · exact congrArg _ (txWait_free hfree)
  case noEvent =>
    rintro (hstate | ⟨hstate, hphase⟩) hinflight hqueue
    · rw [txsStep_stopping hrun hstate, txStopping_noEvent hinflight hqueue]
    · rw [txsStep_wait hrun hstate hphase, txWait_noEvent hinflight hqueue]

end Sys2Proof.Machine
end

section
/-! The steps of RXS and the capture timeout (44_scheduler.md R282 to R287): which part of its loop each state and phase
runs, what an event does to the armed buffer, and the chunk that is dispatched. -/

namespace Sys2Proof.Machine

variable {s t : State} {j : Nat} {w : Word} {rest : List Word}

/-! The part of the loop by state and phase. -/

theorem rxsStep_armed (hrun : s.halted = false) (hstate : s.rxs.state = .armed) :
    rxsStep s =
      .next (if s.rxs.stopReq then s.setRxState .stopping else (s.setRxState .running).setRxPhase .check) := by
  simp [rxsStep, hrun, hstate]

theorem rxsStep_running (hrun : s.halted = false) (hstate : s.rxs.state = .running) : rxsStep s = rxRunning s := by
  simp [rxsStep, hrun, hstate]

theorem rxsStep_stopping {d : DecUnit} (hrun : s.halted = false) (hstate : s.rxs.state = .stopping)
    (hbound : s.rxs.dec = some d) : rxsStep s = .next (rxClosed d s) := by
  rw [← rxClose_of_bound hbound]
  simp [rxsStep, hrun, hstate]

theorem rxsStep_check (hrun : s.halted = false) (hstate : s.rxs.state = .running) (hphase : s.rxs.phase = .check) :
    rxsStep s = .next (rxCheck s) := by
  rw [rxsStep_running hrun hstate, rxRunning, hphase]

theorem rxsStep_trigger (hrun : s.halted = false) (hstate : s.rxs.state = .running) (hphase : s.rxs.phase = .trigger) :
    rxsStep s = .next (rxTrigger s) := by
  rw [rxsStep_running hrun hstate, rxRunning, hphase]

theorem rxsStep_wait (hrun : s.halted = false) (hstate : s.rxs.state = .running) (hphase : s.rxs.phase = .wait) :
    rxsStep s = .next (rxWait s) := by
  rw [rxsStep_running hrun hstate, rxRunning, hphase]

theorem rxsStep_dispatch (hrun : s.halted = false) (hstate : s.rxs.state = .running)
    (hphase : s.rxs.phase = .dispatch) : rxsStep s = rxDispatch s := by
  rw [rxsStep_running hrun hstate, rxRunning, hphase]

/-- What CHECK changes is registers of RXS (R283). -/
theorem rxCheck_eq (s : State) :
    rxCheck s = { s with rxs :=
      if s.rxs.stopReq then { s.rxs with state := .stopping }
      else if s.rxs.armedBuf = none then { s.rxs with phase := .trigger }
      else if 0 < s.rxs.pending then { s.rxs with phase := .dispatch }
      else { s.rxs with phase := .wait } } := by
  unfold rxCheck
  split_ifs <;> rfl

/-- RUNNING is left in CHECK only: no other phase looks at the stop flag (R283). -/
theorem RxEffect.running (h : RxEffect s t) (hstate : s.rxs.state = .running) (hphase : s.rxs.phase ≠ .check) :
    t.rxs.state = .running := by
  cases h with
  | stop state =>
    rcases state with state | ⟨-, phase⟩
    · rw [hstate] at state; cases state
    · exact absurd phase hphase
  | close _ state => rw [hstate] at state; cases state
  | dispatch _ _ parse => exact (congrArg Rxs.state (decParse_sameSched parse).rxs).trans hstate
  | run => rfl
  | stay | check | resume | trigger | ignore | badCount | captured | badRead | badChunk => exact hstate

/-! The capture timeout (R287). -/

theorem captureTimeoutEnabled_iff :
    captureTimeoutEnabled s = true ↔
      s.halted = false ∧ s.rxs.state = .running ∧ s.rxs.phase = .wait ∧ s.rxQueue = [] := by
  simp [captureTimeoutEnabled, and_assoc]

@[simp] theorem State.reclaimArmed_rxs (s : State) : s.reclaimArmed.rxs = s.rxs := by
  unfold State.reclaimArmed; split <;> rfl

theorem State.reclaimArmed_of_armed (harmed : s.rxs.armedBuf = some j) :
    s.reclaimArmed = { s with rxPool := setOwner s.rxPool j .sched } := by
  rw [State.reclaimArmed, harmed]

theorem State.abortArmed_of_armed (harmed : s.rxs.armedBuf = some j) : s.abortArmed = s.emitRxAbort j := by
  rw [State.abortArmed, harmed]

theorem captureTimeoutStep_rxs (henabled : captureTimeoutEnabled s = true) :
    (captureTimeoutStep s).rxs =
      { s.rxs with timeouts := s.rxs.timeouts + 1, armedBuf := none, phase := .check } := by
  simp [captureTimeoutStep, henabled]

/-- The timeout is the end of the armed capture. -/
theorem captureTimeoutStep_armed (henabled : captureTimeoutEnabled s = true) (harmed : s.rxs.armedBuf = some j) :
    captureTimeoutStep s = rxTimedOut j s := by
  have hreclaim : (s.emitRxAbort j).reclaimArmed = { s.emitRxAbort j with rxPool := setOwner s.rxPool j .sched } :=
    State.reclaimArmed_of_armed (s := s.emitRxAbort j) harmed
  rw [captureTimeoutStep, if_pos henabled, State.abortArmed_of_armed harmed, hreclaim]
  rfl

/-- Settles O54: CHECK polls the stop flag, the timeout leads back there, and no other phase leaves RUNNING. -/
theorem rxCheckPollsTheStopFlag : Obligations.RxCheckPollsTheStopFlag := by
  refine ⟨fun s hrun hstate => rxsStep_armed hrun hstate, fun s hrun hstate hphase => ?_, fun s henabled => ?_,
    fun s t _ hstate hphase h => ?_⟩
  · rw [rxsStep_check hrun hstate hphase, rxCheck_eq]
  · obtain ⟨-, hstate, -⟩ := captureTimeoutEnabled_iff.1 henabled
    rw [captureTimeoutStep_rxs henabled]
    exact ⟨rfl, hstate⟩
  · rcases rxsStep_effect s with ⟨t', h', heffect⟩ | ⟨-, -, hfault⟩
    · obtain rfl : t' = t := Host.Outcome.next.inj (h'.symm.trans h)
      exact heffect.running hstate hphase
    · rw [hfault] at h
      cases h

/-! One event (R284). -/

theorem rxWait_event (hqueue : s.rxQueue = w :: rest) : rxWait s = rxConsume w rest s := by
  simp only [rxWait, hqueue]

theorem rxWait_noEvent (hqueue : s.rxQueue = []) : rxWait s = s := by
  simp only [rxWait, hqueue]

theorem rxConsume_captured (harmed : s.rxs.armedBuf = some j) (hsame : w.unit.toNat = j) (hcount : w.arg = s.rxs.n) :
    rxConsume w rest s = rxCaptured j rest s := by
  subst hsame
  rw [rxConsume, if_pos harmed, if_neg (not_not_intro hcount)]
  rfl

theorem rxConsume_badCount (hrun : s.halted = false) (harmed : s.rxs.armedBuf = some j) (hsame : w.unit.toNat = j)
    (hcount : w.arg ≠ s.rxs.n) :
    rxConsume w rest s = { s with rxQueue := rest, halted := true, fatalCode := 3 } := by
  subst hsame
  rw [rxConsume, if_pos harmed, if_pos hcount]
  exact raiseFatal_eq (s := { s with rxQueue := rest }) hrun .count

theorem rxConsume_other (harmed : s.rxs.armedBuf = some j) (hother : w.unit.toNat ≠ j) :
    rxConsume w rest s = { s with rxQueue := rest } := by
  rw [rxConsume, if_neg fun h => hother (Option.some.inj (h.symm.trans harmed))]

/-! The chunk (R286). -/

/-- Consecutive reads of an owned buffer, inside the session's length, give its samples where all are written. -/
theorem bufReadAll_eq {pool : List PoolBuf} {n : Nat} {who : Owner} {b : PoolBuf} (tick : Nat) (hb : pool[j]? = some b)
    (howner : b.owner = who) (chunk : List Sample) (i : Nat) (hroom : i + chunk.length ≤ n)
    (hread : ∀ k, k < chunk.length → Memory.read b.samples (i + k) = chunk[k]?) :
    bufReadAll tick pool n who j chunk.length i = .ok chunk := by
  induction chunk generalizing i with
  | nil => rfl
  | cons v vs ih =>
    rw [List.length_cons] at hroom hread
    have hfirst : bufRead pool n who j i = .ok (some v) := by
      have hv : Memory.read b.samples i = some v := hread 0 (Nat.succ_pos _)
      simp [bufRead, hb, howner, show i < n by omega, hv]
    have hrest : bufReadAll tick pool n who j vs.length (i + 1) = .ok vs :=
      ih (i + 1) (by omega) fun k hk => by
        rw [Nat.add_right_comm]
        exact hread (k + 1) (Nat.succ_lt_succ hk)
    simp only [List.length_cons, bufReadAll, hfirst, hrest, Option.getD_some]

theorem rxDispatch_parsed {d : DecUnit} {chunk : List Sample} {k : Nat} (hbound : s.rxs.dec = some d)
    (hread : bufReadAll s.tick s.rxPool s.rxs.n.toNat .sched s.rxs.rdIdx s.rxs.n.toNat 0 = .ok chunk)
    (hparse : decParse d chunk s = .ok (t, k)) : rxDispatch s = .next (rxDispatched t) := by
  simp only [rxDispatch, hbound, hread, hparse]
  rfl

/-- Settles O58: the trigger, the three kinds of event, the timeout, and the chunk read back whole. -/
theorem rxCapturesAndDispatches : Obligations.RxCapturesAndDispatches := by
  refine ⟨fun s hrun hstate hphase => rxsStep_trigger hrun hstate hphase,
    fun s j w rest hrun hstate hphase harmed hqueue hsame => ?event,
    fun s j hrun hstate hphase harmed => ⟨fun w rest hqueue hother => ?other, fun hqueue => ?noEvent⟩,
    fun s j hrun hstate hphase harmed hqueue => ?timeout,
    fun s t d chunk b k hrun hstate hphase hbound hb howner hlen hread hparse => ?dispatch⟩
  case event =>
    rw [rxsStep_wait hrun hstate hphase, rxWait_event hqueue]
    refine ⟨fun hcount => ?_, fun hcount => ?_⟩
    · rw [rxConsume_captured harmed hsame hcount]; rfl
    · rw [rxConsume_badCount hrun harmed hsame hcount]
  case other => rw [rxsStep_wait hrun hstate hphase, rxWait_event hqueue, rxConsume_other harmed hother]
  case noEvent => rw [rxsStep_wait hrun hstate hphase, rxWait_noEvent hqueue]
  case timeout =>
    exact captureTimeoutStep_armed (captureTimeoutEnabled_iff.2 ⟨hrun, hstate, hphase, hqueue⟩) harmed
  case dispatch =>
    have hchunk : bufReadAll s.tick s.rxPool s.rxs.n.toNat .sched s.rxs.rdIdx s.rxs.n.toNat 0 = .ok chunk := by
      rw [← hlen] at hread
      have hall := bufReadAll_eq (n := s.rxs.n.toNat) s.tick hb howner chunk 0 (by omega) (by simpa using hread)
      rwa [hlen] at hall
    rw [rxsStep_dispatch hrun hstate hphase, rxDispatch_parsed hbound hchunk hparse, rxDispatched,
      (decParse_sameSched hparse).rxs]
    rfl

end Sys2Proof.Machine
end

section
/-! How a stop ends (44_scheduler.md R274, R275, R288 to R290): the schedulers back in IDLE, the expiry that forces them
there, and the answer HOST has waited for. -/

namespace Sys2Proof.Machine

variable {s : State} {d : DecUnit}

/-! Stop commands (R275, R289). -/

theorem execTxStop_idle (hrun : s.halted = false) (hidle : s.txs.state = .idle) :
    execTxStop s = .next { s with rsp := [0x00000000] } := by
  rw [execTxStop, if_pos (.inr hidle), blockCommand_succeed hrun]

theorem execTxStop_session (hrun : s.halted = false) (hsession : s.txs.state ≠ .idle) :
    execTxStop s = .next { s with txs := { s.txs with stopReq := true }, stopWait := some .tx, rsp := [] } := by
  rw [execTxStop, if_neg (not_or.2 ⟨Bool.eq_false_iff.1 hrun, hsession⟩)]

theorem execRxStop_idle (hrun : s.halted = false) (hidle : s.rxs.state = .idle) :
    execRxStop s = .next { s with rsp := [0x00000000] } := by
  rw [execRxStop, if_pos (.inr hidle), blockCommand_succeed hrun]

theorem execRxStop_session (hrun : s.halted = false) (hsession : s.rxs.state ≠ .idle) :
    execRxStop s = .next { s with rxs := { s.rxs with stopReq := true }, stopWait := some .rx, rsp := [] } := by
  rw [execRxStop, if_neg (not_or.2 ⟨Bool.eq_false_iff.1 hrun, hsession⟩)]

/-- Settles O50: each stop command, in IDLE and in a session. -/
theorem stopsRequestAndWait : Obligations.StopsRequestAndWait := fun _ hrun =>
  ⟨execTxStop_idle hrun, execTxStop_session hrun, execRxStop_idle hrun, execRxStop_session hrun⟩

/-! The answer to a withheld stop (R290). -/

theorem respond_stopForced (s : State) : s.respond .stopForced 0 [] = { s with rsp := [0x0000000A] } := by
  have hstatus : statusWord .stopForced 0 0 = 0x0000000A := by decide
  rw [State.respond, List.length_nil, hstatus]

theorem completeStop_idle {dir : Dir} (hrun : s.halted = false) (hidle : s.schedIdle dir = true) :
    completeStop dir s =
      { s.respond (if s.schedForced dir then .stopForced else .ok) 0 [] with stopWait := none } := by
  rw [completeStop, if_neg (Bool.eq_false_iff.1 hrun), if_pos hidle]

/-- HOST's turn ends a withheld stop whose scheduler is idle, and says whether it was forced. -/
theorem hostStep_stopEnds {dir : Dir} (hrun : s.halted = false) (hwait : s.stopWait = some dir)
    (hidle : s.schedIdle dir = true) :
    hostStep s =
      .next { s with stopWait := none, rsp := [if s.schedForced dir then 0x0000000A else 0x00000000] } := by
  simp only [hostStep, hwait, completeStop_idle hrun hidle]
  cases s.schedForced dir with
  | false => simp only [Bool.false_eq_true, if_false, respond_ok]
  | true => simp only [if_true, respond_stopForced]

/-- Join expiry forces the scheduler of a withheld stop out of its session (R290). -/
theorem joinExpiryStep_forces {dir : Dir} (hrun : s.halted = false) (hwait : s.stopWait = some dir)
    (hbusy : s.schedIdle dir = false) : joinExpiryStep s = forceStop s dir := by
  simp only [joinExpiryStep, hrun, hwait, hbusy, Bool.false_eq_true, if_false]

/-! The pools after a session. -/

theorem owner_of_mem_reclaimAll {pool : List PoolBuf} {b : PoolBuf} (h : b ∈ reclaimAll pool) : b.owner = .sched := by
  obtain ⟨_, -, rfl⟩ := List.mem_map.1 h
  rfl

theorem eq_false_of_mem_txClose {f : Bool} (h : f ∈ (txClose s).txFilled) : f = false := by
  obtain ⟨_, -, rfl⟩ := List.mem_map.1 h
  rfl

/-! A TX session that stops with nothing in flight (R274). -/

theorem txsStep_stopRequested (hrun : s.halted = false) (hstop : s.txs.stopReq = true)
    (hstate : s.txs.state = .preloading ∨ s.txs.state = .armed) : txsStep s = .next (s.setTxState .stopping) := by
  rcases hstate with hstate | hstate
  · rw [txsStep_preloading hrun hstate, txPreloading_stop hstop]
  · rw [txsStep_armed hrun hstate, if_pos hstop]

theorem txsStep_closes (hrun : s.halted = false) (hstate : s.txs.state = .stopping) (hfree : s.txs.inflight = none) :
    txsStep s = .next (txClose s) := by
  rw [txsStep_stopping hrun hstate, txStopping_free hfree]

/-- A TX session with nothing in flight ends in two steps (R268, R274). -/
theorem txStop_in_two_steps (hrun : s.halted = false) (hstop : s.txs.stopReq = true) (hfree : s.txs.inflight = none)
    (hstate : s.txs.state = .preloading ∨ s.txs.state = .armed) :
    txsStep s = .next (s.setTxState .stopping) ∧
      txsStep (s.setTxState .stopping) = .next (txClose (s.setTxState .stopping)) :=
  ⟨txsStep_stopRequested hrun hstop hstate, txsStep_closes hrun rfl hfree⟩

/-! The end of an RX session (R288), register by register. -/

@[simp] theorem dout_destroyDecFlt (s : State) (d e : DecUnit) : (s.destroyDecFlt d).dout e = s.dout e := by
  unfold State.destroyDecFlt
  split
  · exact dout_setDecFlt ..
  · rfl

@[simp] theorem rsp_destroyDecFlt (s : State) (d : DecUnit) : (s.destroyDecFlt d).rsp = s.rsp := by
  unfold State.destroyDecFlt
  split
  · exact State.setDecFlt_rsp ..
  · rfl

@[simp] theorem dout_terminateBody (s : State) (d e : DecUnit) : (terminateBody d s).dout e = s.dout e := by
  simp [terminateBody]

@[simp] theorem rsp_terminateBody (s : State) (d : DecUnit) : (terminateBody d s).rsp = s.rsp := by
  simp [terminateBody]

/-- `TERMINATE` destroys the decoder's filter, if it has one (R176). -/
theorem decFlt_terminateBody {g : Flt} (h : (terminateBody d s).decFlt d = some g) :
    ∃ f, s.decFlt d = some f ∧ g = f.destroy := by
  rw [terminateBody, State.decFlt_setPlug] at h
  cases hflt : s.decFlt d with
  | none => simp only [State.destroyDecFlt, hflt, reduceCtorEq] at h
  | some f =>
    simp only [State.destroyDecFlt, hflt] at h
    exact ⟨f, rfl, decFlt_setDecFlt h⟩

@[simp] theorem State.regs_abortArmed (s : State) (v : PluginUnit) : s.abortArmed.regs v = s.regs v := by
  unfold State.abortArmed
  split
  · rcases v with (_ | _ | _ | _) | (_ | _ | _ | _ | _) <;> rfl
  · rfl

@[simp] theorem State.dout_abortArmed (s : State) (d : DecUnit) : s.abortArmed.dout d = s.dout d := by
  cases d <;> simp [State.dout]

@[simp] theorem State.abortArmed_evOut (s : State) :
    s.abortArmed.evOut = s.evOut ++ s.rxs.armedBuf.elim [] fun j => [eventWord 0x92 j 0] := by
  unfold State.abortArmed
  split <;> simp_all [State.emitRxAbort]

@[simp] theorem State.system_abortArmed (s : State) : s.abortArmed.system = s.system := by
  unfold State.abortArmed
  split <;> rfl

theorem State.ports_abortArmed (s : State) :
    s.abortArmed.ports = { s.ports with evOut := s.abortArmed.evOut, rxHas := s.abortArmed.rxHas } := by
  unfold State.abortArmed
  split <;> rfl

/-- What RXS keeps of itself and of its buffers is no unit's register. -/
theorem regs_of_rx (s : State) (rxs : Rxs) (rxPool : List PoolBuf) (rxQueue : List Word) (v : PluginUnit) :
    State.regs { s with rxs := rxs, rxPool := rxPool, rxQueue := rxQueue } v = s.regs v := by
  rcases v with (_ | _ | _ | _) | (_ | _ | _ | _ | _) <;> rfl

theorem regs_rxClosed {v : PluginUnit} (hv : v ≠ .dec d) : (rxClosed d s).regs v = s.regs v :=
  calc (rxClosed d s).regs v
      = (terminateBody d s.abortArmed).regs v := regs_of_rx ..
    _ = s.abortArmed.regs v := (onlyUnit_terminateBody d s.abortArmed).others v hv
    _ = s.regs v := State.regs_abortArmed s v

theorem plug_rxClosed (d : DecUnit) (s : State) :
    (rxClosed d s).plug (.dec d) = { s.plug (.dec d) with lc := .idle } :=
  calc (rxClosed d s).plug (.dec d)
      = (terminateBody d s.abortArmed).plug (.dec d) := plug_eq_of_regs (regs_of_rx ..)
    _ = { s.abortArmed.plug (.dec d) with lc := .idle } := plug_terminateBody d s.abortArmed
    _ = { s.plug (.dec d) with lc := .idle } := by rw [State.plug_abortArmed]

theorem dout_rxClosed (d : DecUnit) (s : State) (e : DecUnit) : (rxClosed d s).dout e = s.dout e := by
  have hkeep : (rxClosed d s).dout e = (terminateBody d s.abortArmed).dout e := by cases e <;> rfl
  rw [hkeep, dout_terminateBody, State.dout_abortArmed]

theorem decFlt_rxClosed {g : Flt} (h : (rxClosed d s).decFlt d = some g) : g.allocated = false ∧ g.valid = false := by
  have hkeep : (rxClosed d s).decFlt d = (terminateBody d s.abortArmed).decFlt d := decFlt_eq_of_regs (regs_of_rx ..)
  obtain ⟨_, -, rfl⟩ := decFlt_terminateBody (hkeep.symm.trans h)
  exact ⟨rfl, rfl⟩

theorem rxs_rxClosed (d : DecUnit) (s : State) :
    (rxClosed d s).rxs =
      { s.rxs with
        state := .idle, phase := .check, armedBuf := none, pending := 0, rdIdx := s.rxs.wrIdx, stopReq := false } :=
  (rxClosed_sched d s).rxs

theorem rxPool_rxClosed (d : DecUnit) (s : State) : (rxClosed d s).rxPool = reclaimAll s.rxPool :=
  (rxClosed_sched d s).rxPool

theorem system_rxClosed (d : DecUnit) (s : State) :
    (rxClosed d s).system =
      { s.system with rxs := (rxClosed d s).rxs, rxPool := (rxClosed d s).rxPool, rxQueue := [] } := by
  have hsystem := (onlyUnit_terminateBody d s.abortArmed).system.trans (State.system_abortArmed s)
  exact congrArg (fun r : SystemRegs => { r with
    rxs := (rxClosed d s).rxs, rxPool := (rxClosed d s).rxPool, rxQueue := [] }) hsystem

theorem evOut_rxClosed (d : DecUnit) (s : State) : (rxClosed d s).evOut = s.abortArmed.evOut :=
  (rxClosed_sched d s).evOut

theorem rxHas_rxClosed (d : DecUnit) (s : State) : (rxClosed d s).rxHas = s.abortArmed.rxHas :=
  (rxClosed_sched d s).rxHas

theorem ports_rxClosed (d : DecUnit) (s : State) :
    (rxClosed d s).ports = { s.ports with evOut := (rxClosed d s).evOut, rxHas := (rxClosed d s).rxHas } := by
  rw [evOut_rxClosed, rxHas_rxClosed, ← State.ports_abortArmed]
  exact (onlyUnit_terminateBody d s.abortArmed).ports

theorem rsp_rxClosed (d : DecUnit) (s : State) : (rxClosed d s).rsp = s.rsp :=
  (rsp_terminateBody ..).trans (State.abortArmed_rsp s)

/-! The schedulers after join expiry (R290). -/

/-- TXS after join expiry (R290). -/
def txForced (s : State) : State := txClose { s with txs := { s.txs with forced := true } }

/-- RXS after join expiry, the session of decoder `d` over (R290). -/
def rxForced (d : DecUnit) (s : State) : State := rxClosed d { s with rxs := { s.rxs with forced := true } }

theorem joinExpiryStep_tx (hrun : s.halted = false) (hwait : s.stopWait = some .tx) (hsession : s.txs.state ≠ .idle) :
    joinExpiryStep s = .next (txForced s) :=
  joinExpiryStep_forces hrun hwait (decide_eq_false hsession)

theorem joinExpiryStep_rx (hrun : s.halted = false) (hwait : s.stopWait = some .rx) (hsession : s.rxs.state ≠ .idle)
    (hbound : s.rxs.dec = some d) : joinExpiryStep s = .next (rxForced d s) :=
  (joinExpiryStep_forces hrun hwait (decide_eq_false hsession)).trans
    (rxClose_of_bound (s := { s with rxs := { s.rxs with forced := true } }) hbound)

theorem hostStep_txForced (hrun : s.halted = false) (hwait : s.stopWait = some .tx) :
    hostStep (txForced s) = .next { txForced s with stopWait := none, rsp := [0x0000000A] } :=
  hostStep_stopEnds (s := txForced s) hrun hwait rfl

theorem hostStep_rxForced (hrun : s.halted = false) (hwait : s.stopWait = some .rx) :
    hostStep (rxForced d s) = .next { rxForced d s with stopWait := none, rsp := [0x0000000A] } := by
  have hsystem : (rxForced d s).system = _ := system_rxClosed ..
  have hrxs : (rxForced d s).rxs = _ := rxs_rxClosed ..
  have hidle : (rxForced d s).schedIdle .rx = true := by rw [State.schedIdle, hrxs]; rfl
  have hforced : (rxForced d s).schedForced .rx = true := by rw [State.schedForced, hrxs]
  rw [hostStep_stopEnds ((congrArg SystemRegs.halted hsystem).trans hrun)
    ((congrArg SystemRegs.stopWait hsystem).trans hwait) hidle, hforced, if_pos rfl]

/-- Settles O59: two steps end a TX stop, the closing step an RX stop, join expiry either; then HOST is answered. -/
theorem stopsEndBoundedly : Obligations.StopsEndBoundedly := by
  refine ⟨fun s hrun hstop hfree hstate => ?twoSteps, fun s hrun hwait hsession => ?txExpiry,
    fun s d hrun hwait hsession hbound => ?rxExpiry, fun s d hrun hstate hbound => ?rxStopping,
    fun s hrun hwait hidle hforced => ?txAnswer, fun s hrun hwait hidle hforced => ?rxAnswer⟩
  case twoSteps =>
    obtain ⟨hfirst, hsecond⟩ := txStop_in_two_steps hrun hstop hfree hstate
    exact ⟨_, _, hfirst, hsecond, rfl, rfl, fun b => owner_of_mem_reclaimAll, fun f => eq_false_of_mem_txClose, rfl⟩
  case txExpiry =>
    exact ⟨_, joinExpiryStep_tx hrun hwait hsession, rfl, rfl, fun b => owner_of_mem_reclaimAll,
      fun f => eq_false_of_mem_txClose, rfl, rfl, rfl, hostStep_txForced hrun hwait⟩
  case rxExpiry =>
    have hsched := rxClosed_sched d { s with rxs := { s.rxs with forced := true } }
    refine ⟨_, joinExpiryStep_rx hrun hwait hsession hbound, rxs_rxClosed .., rfl, fun b hb => ?_, ?_,
      (dout_rxClosed ..).trans ?_, hsched.txs.trans (State.abortArmed_txs _), (evOut_rxClosed ..).trans ?_,
      hsched.txPool.trans (State.abortArmed_txPool _), hsched.txFilled.trans (State.abortArmed_txFilled _),
      hsched.txQueue.trans (State.abortArmed_txQueue _), hostStep_rxForced hrun hwait⟩
    · exact owner_of_mem_reclaimAll (rxPool_rxClosed d _ ▸ hb)
    · exact congrArg Plug.lc (plug_rxClosed ..)
    · cases d <;> rfl
    · rw [State.abortArmed_evOut]
      dsimp only
      cases s.rxs.armedBuf <;> rfl
  case rxStopping =>
    refine ⟨_, rxsStep_stopping hrun hstate hbound, rxs_rxClosed .., rfl, rxPool_rxClosed .., ?_, plug_rxClosed ..,
      dout_rxClosed .., fun f => decFlt_rxClosed, fun v => regs_rxClosed, system_rxClosed .., ports_rxClosed ..,
      fun hfree => ?_, fun j harmed => ?_, rsp_rxClosed ..⟩
    · rw [evOut_rxClosed, State.abortArmed_evOut]
      cases s.rxs.armedBuf <;> rfl
    · rw [rxHas_rxClosed, State.abortArmed_rxHas, hfree, Option.elim_none]
    · rw [rxHas_rxClosed, State.abortArmed_rxHas, harmed, Option.elim_some, endLoan]
  case txAnswer =>
    rw [hostStep_stopEnds hrun hwait (decide_eq_true hidle), State.schedForced, hforced, if_neg Bool.false_ne_true]
  case rxAnswer =>
    rw [hostStep_stopEnds hrun hwait (decide_eq_true hidle), State.schedForced, hforced, if_neg Bool.false_ne_true]

end Sys2Proof.Machine
end

section
/-! Bindings and starts (44_scheduler.md R261 to R263, R267, R281): the unit a number names, the ABI check of a unit of
each kind, and the session that opens on the bound unit. -/

namespace Sys2Proof.Machine

variable {s : State} {e : EncUnit} {d : DecUnit} {unit n : BitVec 16}

/-! Unit numbers (R92) and the ABI check (R261). -/

theorem pluginUnit?_encNumber (e : EncUnit) : pluginUnit? (encNumber e).toNat = some (.enc e) := by
  cases e <;> rfl

theorem pluginUnit?_decNumber (d : DecUnit) : pluginUnit? (decNumber d).toNat = some (.dec d) := by
  cases d <;> rfl

theorem exists_decNumber {k : Nat} (h : k ∈ [1, 2, 3, 4]) : ∃ d, k = (decNumber d).toNat := by
  simp only [List.mem_cons, List.not_mem_nil, or_false] at h
  rcases h with rfl | rfl | rfl | rfl
  exacts [⟨.ook, rfl⟩, ⟨.pwm, rfl⟩, ⟨.morse, rfl⟩, ⟨.raw, rfl⟩]

theorem exists_encNumber {k : Nat} (h : k ∈ [8, 9, 10, 11, 12]) : ∃ e, k = (encNumber e).toNat := by
  simp only [List.mem_cons, List.not_mem_nil, or_false] at h
  rcases h with rfl | rfl | rfl | rfl | rfl
  exacts [⟨.wave, rfl⟩, ⟨.wav, rfl⟩, ⟨.ook, rfl⟩, ⟨.pwm, rfl⟩, ⟨.morse, rfl⟩]

theorem pluginUnit?_eq_none {k : Nat} (h : k ∉ [1, 2, 3, 4, 8, 9, 10, 11, 12]) : pluginUnit? k = none := by
  unfold pluginUnit?
  split
  iterate 9 exact absurd (by decide) h
  rfl

theorem abiCheck_encoder (e : EncUnit) : abiCheck (.enc e) .encoder = 0 := by
  cases e <;> decide

theorem abiCheck_decoder (d : DecUnit) : abiCheck (.dec d) .decoder = 0 := by
  cases d <;> decide

/-- A unit of the other kind fails the check at its first comparison. -/
theorem abiCheck_decoder_as_encoder (d : DecUnit) : abiCheck (.dec d) .encoder = 4 := by
  cases d <;> decide

theorem abiCheck_encoder_as_decoder (e : EncUnit) : abiCheck (.enc e) .decoder = 4 := by
  cases e <;> decide

/-! Bindings (R262, R263). -/

theorem bindTx_eq (e : EncUnit) (s : State) :
    bindTx e s = { s.unbindTx.setBound (.enc e) .tx with txs := { s.txs with enc := some e } } := by
  obtain ⟨old, hunbind⟩ := unbindTx_onlyUnit s
  have hbind : OnlyUnit (.enc e) s.unbindTx (s.unbindTx.setBound (.enc e) .tx) := onlyUnit_setPlug ..
  simp only [bindTx, hbind.txs, hunbind.txs]

theorem bindRx_eq (d : DecUnit) (s : State) :
    bindRx d s = { s.unbindRx.setBound (.dec d) .rx with rxs := { s.rxs with dec := some d } } := by
  obtain ⟨old, hunbind⟩ := unbindRx_onlyUnit s
  have hbind : OnlyUnit (.dec d) s.unbindRx (s.unbindRx.setBound (.dec d) .rx) := onlyUnit_setPlug ..
  simp only [bindRx, hbind.rxs, hunbind.rxs]

theorem exec_txBind (unit : BitVec 16) (s : State) : exec (.txBind unit) s = blockCommand s (txBindBody unit s) := rfl

theorem exec_rxBind (unit : BitVec 16) (s : State) : exec (.rxBind unit) s = blockCommand s (rxBindBody unit s) := rfl

theorem txBindBody_encoder (hunit : unit.toNat = (encNumber e).toNat) (hidle : s.txs.state = .idle)
    (halive : (s.plug (.enc e)).lc ≠ .absent) : txBindBody unit s = .succeed (bindTx e s) [] := by
  simp only [txBindBody, hidle, hunit, pluginUnit?_encNumber, abiCheck_encoder, halive, ne_eq, not_true, if_false]

theorem rxBindBody_decoder (hunit : unit.toNat = (decNumber d).toNat) (hidle : s.rxs.state = .idle)
    (halive : (s.plug (.dec d)).lc ≠ .absent) : rxBindBody unit s = .succeed (bindRx d s) [] := by
  simp only [rxBindBody, hidle, hunit, pluginUnit?_decNumber, abiCheck_decoder, halive, ne_eq, not_true, if_false]

theorem txBindBody_decoder (hunit : unit.toNat ∈ [1, 2, 3, 4]) (hidle : s.txs.state = .idle) :
    txBindBody unit s = .refuse .abi 4 := by
  obtain ⟨d, hd⟩ := exists_decNumber hunit
  simp [txBindBody, hidle, hd, pluginUnit?_decNumber, abiCheck_decoder_as_encoder]

theorem rxBindBody_encoder (hunit : unit.toNat ∈ [8, 9, 10, 11, 12]) (hidle : s.rxs.state = .idle) :
    rxBindBody unit s = .refuse .abi 4 := by
  obtain ⟨e, he⟩ := exists_encNumber hunit
  simp [rxBindBody, hidle, he, pluginUnit?_encNumber, abiCheck_encoder_as_decoder]

theorem txBindBody_noUnit (hunit : unit.toNat ∉ [1, 2, 3, 4, 8, 9, 10, 11, 12]) (hidle : s.txs.state = .idle) :
    txBindBody unit s = .refuse .outOfRange 0 := by
  simp [txBindBody, hidle, pluginUnit?_eq_none hunit]

theorem rxBindBody_noUnit (hunit : unit.toNat ∉ [1, 2, 3, 4, 8, 9, 10, 11, 12]) (hidle : s.rxs.state = .idle) :
    rxBindBody unit s = .refuse .outOfRange 0 := by
  simp [rxBindBody, hidle, pluginUnit?_eq_none hunit]

/-- A refused command of the filter, a scheduler or the system answers its status word and changes nothing else. -/
theorem blockCommand_refuse (hrun : s.halted = false) (st : Status) (detail : BitVec 8) :
    blockCommand s (.refuse st detail) = .next { s with rsp := [statusWord st detail 0] } := by
  rw [blockCommand, if_neg (Bool.eq_false_iff.1 hrun)]
  rfl

theorem statusWord_abiKind : statusWord .abi 4 0 = 0x00000409 := by decide

theorem statusWord_outOfRange : statusWord .outOfRange 0 0 = 0x00000006 := by decide

/-- Settles O48: the accepted binding, the other kind of unit, and the number of no unit, of either scheduler. -/
theorem bindGivesASchedulerItsUnit : Obligations.BindGivesASchedulerItsUnit := by
  refine ⟨fun e unit s hunit hrun hidle halive => ?txBind, fun d unit s hunit hrun hidle halive => ?rxBind,
    fun unit s hrun => ⟨fun hidle hunit => ?txKind, fun hidle hunit => ?rxKind,
      fun hunit => ⟨fun hidle => ?txNone, fun hidle => ?rxNone⟩⟩⟩
  case txBind =>
    rw [exec_txBind, txBindBody_encoder hunit hidle halive, blockCommand_succeed hrun, bindTx_eq]
    rfl
  case rxBind =>
    rw [exec_rxBind, rxBindBody_decoder hunit hidle halive, blockCommand_succeed hrun, bindRx_eq]
    rfl
  case txKind =>
    rw [exec_txBind, txBindBody_decoder hunit hidle, blockCommand_refuse hrun, statusWord_abiKind]
  case rxKind =>
    rw [exec_rxBind, rxBindBody_encoder hunit hidle, blockCommand_refuse hrun, statusWord_abiKind]
  case txNone =>
    rw [exec_txBind, txBindBody_noUnit hunit hidle, blockCommand_refuse hrun, statusWord_outOfRange]
  case rxNone =>
    rw [exec_rxBind, rxBindBody_noUnit hunit hidle, blockCommand_refuse hrun, statusWord_outOfRange]

/-! Starts (R267, R281). -/

theorem exec_txStart (n : BitVec 16) (s : State) : exec (.txStart n) s = blockCommand s (txStartBody n s) := rfl

theorem exec_rxStart (n : BitVec 16) (s : State) : exec (.rxStart n) s = blockCommand s (rxStartBody n s) := rfl

theorem txStartBody_begins (hidle : s.txs.state = .idle) (hn : n ≠ 0) (hbound : s.txs.enc = some e)
    (hlc : (s.plug (.enc e)).lc ≠ .config) (hready : (s.plug (.enc e)).ready = true) (hline : s.txBusy = false) :
    txStartBody n s = .succeed (txBegin n (resetBody e s)) [] := by
  rw [txStartBody, if_neg (not_not_intro hidle), if_neg hn, hbound]
  simp [hlc, hready, hline]

theorem rxStartBody_begins {t : State} (hidle : s.rxs.state = .idle) (hn : n ≠ 0) (hbound : s.rxs.dec = some d)
    (hlc : (s.plug (.dec d)).lc = .idle) (hready : (s.plug (.dec d)).ready = true) (hline : s.rxBusy = false)
    (hinit : initializeBody d n s = .succeed t []) : rxStartBody n s = .succeed (rxBegin n t) [] := by
  rw [CmdResult.succeed] at hinit
  rw [rxStartBody, if_neg (not_not_intro hidle), if_neg hn, hbound]
  simp [hlc, hready, hline, hinit]

theorem initializeCommand_accepted {t : State} (hadm : Admits s (.dec d) .idle)
    (hready : (s.plug (.dec d)).ready = true) (hinit : initializeBody d n s = .succeed t []) :
    initializeCommand d n s = .next { t with rsp := [0x00000000] } := by
  rw [initializeCommand, hready, Bool.not_true, if_neg Bool.false_ne_true, hinit]
  exact pluginCommand_succeed hadm rfl

/-- Settles O49: the unit's own command, then the session that opens on it. -/
theorem startsOpenASession : Obligations.StartsOpenASession := by
  refine ⟨fun e n s hrun hidle hn hbound hfree hlc hready hline => ?tx,
    fun d n s hrun hidle hn hbound hfree hlc hready hline => ?rx⟩
  case tx =>
    have hadm : Admits s (.enc e) .idle ∨ Admits s (.enc e) .active := hlc.imp (⟨hrun, hfree, ·⟩) (⟨hrun, hfree, ·⟩)
    have hconfig : (s.plug (.enc e)).lc ≠ .config := by rcases hlc with h | h <;> rw [h] <;> nofun
    have hsame := (onlyUnit_resetBody e s).sameSched
    refine ⟨_, (exec_reset e s).trans (resetCommand_accepted hadm hready), ?_⟩
    rw [exec_txStart, txStartBody_begins hidle hn hbound hconfig hready hline, blockCommand_succeed hrun]
    simp only [txBegin, hsame.txs, hsame.txPool, hsame.txFilled, Params.plcphy_txPreload, if_true, reclaimAll]
  case rx =>
    obtain ⟨t, hinit, -⟩ := initializeBody_eq d hn s
    have hsame := (initializeBody_done hinit).only.sameSched
    refine ⟨_, (exec_start d n s).trans (initializeCommand_accepted ⟨hrun, hfree, hlc⟩ hready hinit), ?_⟩
    rw [exec_rxStart, rxStartBody_begins hidle hn hbound hlc hready hline hinit, blockCommand_succeed hrun]
    simp only [rxBegin, hsame.rxs, hsame.rxPool, reclaimAll]

end Sys2Proof.Machine
end

section
/-! The halt latch as HOST sees it: `SYS_STATUS`, and the answer `E_HALTED` to everything else (60_exceptions.md R307,
R308). -/

namespace Sys2Proof.Machine

variable {s : State}

/-! `SYS_STATUS` (R308). -/

theorem exec_sysStatus (s : State) : exec .sysStatus s = .next { s with rsp := [0x00010000, s.sysStatusBits] } := by
  have hstatus : statusWord .ok 0 1 = 0x00010000 := by decide
  rw [← hstatus]
  rfl

/-- Each field of the word of `SYS_STATUS` at its place. -/
theorem State.sysStatusBits_fields (s : State) :
    s.sysStatusBits.getLsbD 0 = s.halted ∧ s.sysStatusBits.extractLsb' 1 7 = 0 ∧
      s.sysStatusBits.extractLsb' 8 8 = s.fatalCode ∧ s.sysStatusBits.extractLsb' 16 8 = 1 ∧
      s.sysStatusBits.extractLsb' 24 8 = 0 := by
  unfold State.sysStatusBits
  refine ⟨?halted, ?unused, ?code, ?major, ?minor⟩
  case halted =>
    rw [BitVec.getLsbD_append]
    cases s.halted <;> rfl
  case unused =>
    rw [BitVec.extractLsb'_append_eq_of_le (by decide)]
    exact BitVec.extractLsb'_append_eq_right
  case code =>
    iterate 2 rw [BitVec.extractLsb'_append_eq_of_le (by decide)]
    exact BitVec.extractLsb'_append_eq_right
  case major =>
    iterate 3 rw [BitVec.extractLsb'_append_eq_of_le (by decide)]
    exact BitVec.extractLsb'_append_eq_right
  case minor =>
    iterate 3 rw [BitVec.extractLsb'_append_eq_of_le (by decide)]
    exact BitVec.extractLsb'_append_eq_left

theorem sysStatusBits_reset : State.reset.sysStatusBits = 0x00010000 := by decide

theorem sysStatusBits_chunkLen (hrun : s.halted = false) : (s.raiseFatal .chunkLen).sysStatusBits = 0x00010201 := by
  have hword : (0 : BitVec 8) ++ (1 : BitVec 8) ++ FatalCode.chunkLen.code ++ (0 : BitVec 7) ++ flagBit true
      = (0x00010201 : Word) := by decide
  rw [raiseFatal_eq hrun, ← hword]
  rfl

/-- Settles O52: the decoded command, its word field by field, and the two examples. -/
theorem sysStatusShowsTheLatch : Obligations.SysStatusShowsTheLatch := by
  refine ⟨decode_plain (opcode := 0x3F) (unit := 0xFF) (arg := 0) rfl [],
    fun s => ⟨s.sysStatusBits, exec_sysStatus s, s.sysStatusBits_fields⟩, ?reset, fun s hrun => ?chunkLen⟩
  case reset => rw [exec_sysStatus, sysStatusBits_reset]
  case chunkLen => rw [exec_sysStatus, sysStatusBits_chunkLen hrun]

/-! `E_HALTED` (R307). -/

/-- The answer of a halted PLCPHY: `E_HALTED` with the fatal code and no response words (R96). -/
theorem answerHalted_eq (s : State) :
    s.answerHalted = { s with rsp := [(0 : BitVec 16) ++ s.fatalCode ++ (0x0B : BitVec 8)] } := by
  have hrlen : rlenField 0 = 0 := by decide
  rw [State.answerHalted, State.respond, List.length_nil, statusWord, hrlen]
  rfl

/-- The check of the latch comes first in every command: of a plugin unit by R142, of the filter, a scheduler or the
system, and in the two stops before they look at their session. -/
theorem exec_command_halted {i : Instr} (hcommand : i.isCommand = true) (hi : i ≠ .sysStatus) (hh : s.halted = true) :
    exec i s = .next s.answerHalted := by
  cases hview : i.view with
  | plugin op u =>
    obtain ⟨legal, body, hexec, -⟩ := exec_admitted hview s
    rw [hexec, pluginCommand_halted hh]
  | system =>
    cases i with
    | fltCreate | fltSetDemod | fltSetCapture | fltProcessChunk | fltReadOutput | fltReadCapture | fltRelease | txBind
    | txStart | rxBind | rxStart => exact blockCommand_halted hh _
    | txStatus | rxStatus => exact blockCommand_halted hh (.succeed _ _)
    | txStop | rxStop => exact (if_pos (.inl hh)).trans (blockCommand_halted hh _)
    | sysStatus => exact absurd rfl hi
    | _ => cases hview
  | event => exact absurd hview (of_decide_eq_true hcommand)

theorem hostStep_of_illegal {rest : List Word} (hstop : s.stopWait = none) (hdec : decode s.cmdIn = .illegal rest) :
    hostStep s = .next (illegalCommand { s with cmdIn := rest }) := by
  simp only [hostStep, hstop, hdec]

theorem hostStep_of_withheld {d : Dir} (hstop : s.stopWait = some d) : hostStep s = .next (completeStop d s) := by
  simp only [hostStep, hstop]

theorem illegalCommand_halted (hh : s.halted = true) : illegalCommand s = s.answerHalted := if_pos hh

theorem completeStop_halted (hh : s.halted = true) (d : Dir) :
    completeStop d s = { s.answerHalted with stopWait := none } := if_pos hh

/-- Settles O8: what HOST's turn runs while PLCPHY is halted, and the one answer to it. -/
theorem haltedCommandsAnswerHalted : Obligations.HaltedCommandsAnswerHalted := by
  refine ⟨fun i s hcommand hi hh => ?command, fun s w rest hh hstop hin hpair => ?illegal,
    fun s i rest hh hstop hdec => hostStep_of_decode hstop hdec, fun s d hh hstop => ?withheld⟩
  case command => rw [exec_command_halted hcommand hi hh, answerHalted_eq]
  case illegal =>
    have hdec : decode s.cmdIn = .illegal rest := by rw [hin, decode_eq_illegal_iff, hpair]
    rw [hostStep_of_illegal hstop hdec, illegalCommand_halted (s := { s with cmdIn := rest }) hh, answerHalted_eq]
  case withheld => rw [hostStep_of_withheld hstop, completeStop_halted hh, answerHalted_eq]

end Sys2Proof.Machine
end
